-- ==== Sys2Proof/Word.lean ====
section
/-! DEFINITION. The word types of the machine (`spec/00_scope.md` rules R6 and R8). -/

namespace Sys2Proof

/-- A `u8`: an 8-bit register or one byte of memory. -/
abbrev Byte := BitVec 8

/-- A `u16`: a register pair, SP, PC or a bus address. -/
abbrev Addr := BitVec 16

/-- A shade 0..3 after palette lookup, or a colour number 0..3 before it (glossary of `00_scope.md`). -/
abbrev Shade := BitVec 2

end Sys2Proof
end

