-- ==== Sys2Proof/Machine/Bits.lean ====
section
/-! DEFINITION. Bit fields, byte order and sign extension (`spec/00_scope.md` rule R8). -/

namespace Sys2Proof.Machine

/-- `hi : lo` (R8): the 16-bit value with `hi` in bits 15..8. -/
def word16 (hi lo : Byte) : Addr := hi ++ lo

/-- `v[15:8]`. -/
def hiByte (v : Addr) : Byte := v.extractLsb' 8 8

/-- `v[7:0]`. -/
def loByte (v : Addr) : Byte := v.extractLsb' 0 8

/-- `zext_16(v)` (R8). -/
def zext16 (v : Byte) : Addr := v.setWidth 16

/-- `sext_16(v)` (R8): bit 7 copied into bits 15..8. -/
def sext16 (v : Byte) : Addr := v.signExtend 16

/-- A 1-bit value as a byte, in bit 0. -/
def bit0 (b : Bool) : Byte := if b then 1 else 0

/-- Opcode field `x = o[7:6]` (`30_encoding.md` R262). -/
def fieldX (o : Byte) : Nat := (o.extractLsb' 6 2).toNat

/-- Opcode field `y = o[5:3]` (R262). -/
def fieldY (o : Byte) : Nat := (o.extractLsb' 3 3).toNat

/-- Opcode field `z = o[2:0]` (R262). -/
def fieldZ (o : Byte) : Nat := (o.extractLsb' 0 3).toNat

/-- Opcode field `p = o[5:4]` (R262). -/
def fieldP (o : Byte) : Nat := (o.extractLsb' 4 2).toNat

/-- Opcode field `q = o[3]` (R262). -/
def fieldQ (o : Byte) : Bool := o.getLsbD 3

end Sys2Proof.Machine
end

