-- ==== Sys2Proof/WellFormed.lean ====
section
/-! DEFINITION. Which terms of `Instr` are instructions. -/

namespace Sys2Proof

/-- A term is a whole instruction. Every operand value is admitted (`spec/30_encoding.md` R264, R268, R270); the one
check is R501 of `spec/45_system.md`: the prefix byte 0xCB "is not an instruction by itself". -/
abbrev Instr.WellFormed (i : Instr) : Prop := i ≠ .prefix_cb

end Sys2Proof
end

