-- ==== Sys2Proof/Decode.lean ====
section
/-! DEFINITION. The decoder, total on any bytes (`spec/30_encoding.md` rules R260 to R269), and after it the encoder,
row by row from `spec/opcode_table.json`. The families of instructions that the operand fields select come first. -/

namespace Sys2Proof

open Machine

namespace Instr

/-- `LD r,r'` (R300): `01yyyzzz`. -/
def ldRR : Reg8 → Reg8 → Instr
  | .b, .b => .ld_b_b
  | .b, .c => .ld_b_c
  | .b, .d => .ld_b_d
  | .b, .e => .ld_b_e
  | .b, .h => .ld_b_h
  | .b, .l => .ld_b_l
  | .b, .a => .ld_b_a
  | .c, .b => .ld_c_b
  | .c, .c => .ld_c_c
  | .c, .d => .ld_c_d
  | .c, .e => .ld_c_e
  | .c, .h => .ld_c_h
  | .c, .l => .ld_c_l
  | .c, .a => .ld_c_a
  | .d, .b => .ld_d_b
  | .d, .c => .ld_d_c
  | .d, .d => .ld_d_d
  | .d, .e => .ld_d_e
  | .d, .h => .ld_d_h
  | .d, .l => .ld_d_l
  | .d, .a => .ld_d_a
  | .e, .b => .ld_e_b
  | .e, .c => .ld_e_c
  | .e, .d => .ld_e_d
  | .e, .e => .ld_e_e
  | .e, .h => .ld_e_h
  | .e, .l => .ld_e_l
  | .e, .a => .ld_e_a
  | .h, .b => .ld_h_b
  | .h, .c => .ld_h_c
  | .h, .d => .ld_h_d
  | .h, .e => .ld_h_e
  | .h, .h => .ld_h_h
  | .h, .l => .ld_h_l
  | .h, .a => .ld_h_a
  | .l, .b => .ld_l_b
  | .l, .c => .ld_l_c
  | .l, .d => .ld_l_d
  | .l, .e => .ld_l_e
  | .l, .h => .ld_l_h
  | .l, .l => .ld_l_l
  | .l, .a => .ld_l_a
  | .a, .b => .ld_a_b
  | .a, .c => .ld_a_c
  | .a, .d => .ld_a_d
  | .a, .e => .ld_a_e
  | .a, .h => .ld_a_h
  | .a, .l => .ld_a_l
  | .a, .a => .ld_a_a

/-- `LD r,(HL)` (R302). -/
def ldRHL : Reg8 → Instr
  | .b => .ld_b_atHL
  | .c => .ld_c_atHL
  | .d => .ld_d_atHL
  | .e => .ld_e_atHL
  | .h => .ld_h_atHL
  | .l => .ld_l_atHL
  | .a => .ld_a_atHL

/-- `LD (HL),r` (R303). -/
def ldHLR : Reg8 → Instr
  | .b => .ld_atHL_b
  | .c => .ld_atHL_c
  | .d => .ld_atHL_d
  | .e => .ld_atHL_e
  | .h => .ld_atHL_h
  | .l => .ld_atHL_l
  | .a => .ld_atHL_a

/-- `LD r,n8` (R301). -/
def ldRN : Reg8 → Byte → Instr
  | .b, n => .ld_b_n8 n
  | .c, n => .ld_c_n8 n
  | .d, n => .ld_d_n8 n
  | .e, n => .ld_e_n8 n
  | .h, n => .ld_h_n8 n
  | .l, n => .ld_l_n8 n
  | .a, n => .ld_a_n8 n

/-- `LD rr,n16` (R320). -/
def ldRpN : Rp → Addr → Instr
  | .bc, n => .ld_bc_n16 n
  | .de, n => .ld_de_n16 n
  | .hl, n => .ld_hl_n16 n
  | .sp, n => .ld_sp_n16 n

/-- `INC rr` (R400). -/
def incRp : Rp → Instr
  | .bc => .inc_bc
  | .de => .inc_de
  | .hl => .inc_hl
  | .sp => .inc_sp

/-- `DEC rr` (R401). -/
def decRp : Rp → Instr
  | .bc => .dec_bc
  | .de => .dec_de
  | .hl => .dec_hl
  | .sp => .dec_sp

/-- `ADD HL,rr` (R402). -/
def addHLRp : Rp → Instr
  | .bc => .add_hl_bc
  | .de => .add_hl_de
  | .hl => .add_hl_hl
  | .sp => .add_hl_sp

/-- `PUSH rr` (R330, R331). -/
def push : Rp2 → Instr
  | .bc => .push_bc
  | .de => .push_de
  | .hl => .push_hl
  | .af => .push_af

/-- `POP rr` (R332, R335). -/
def pop : Rp2 → Instr
  | .bc => .pop_bc
  | .de => .pop_de
  | .hl => .pop_hl
  | .af => .pop_af

/-- Register form of the eight operations (R350): `10ooozzz`. -/
def aluR : AluOp → Reg8 → Instr
  | .add, .b => .add_a_b
  | .add, .c => .add_a_c
  | .add, .d => .add_a_d
  | .add, .e => .add_a_e
  | .add, .h => .add_a_h
  | .add, .l => .add_a_l
  | .add, .a => .add_a_a
  | .adc, .b => .adc_a_b
  | .adc, .c => .adc_a_c
  | .adc, .d => .adc_a_d
  | .adc, .e => .adc_a_e
  | .adc, .h => .adc_a_h
  | .adc, .l => .adc_a_l
  | .adc, .a => .adc_a_a
  | .sub, .b => .sub_b
  | .sub, .c => .sub_c
  | .sub, .d => .sub_d
  | .sub, .e => .sub_e
  | .sub, .h => .sub_h
  | .sub, .l => .sub_l
  | .sub, .a => .sub_a
  | .sbc, .b => .sbc_a_b
  | .sbc, .c => .sbc_a_c
  | .sbc, .d => .sbc_a_d
  | .sbc, .e => .sbc_a_e
  | .sbc, .h => .sbc_a_h
  | .sbc, .l => .sbc_a_l
  | .sbc, .a => .sbc_a_a
  | .and, .b => .and_b
  | .and, .c => .and_c
  | .and, .d => .and_d
  | .and, .e => .and_e
  | .and, .h => .and_h
  | .and, .l => .and_l
  | .and, .a => .and_a
  | .xor, .b => .xor_b
  | .xor, .c => .xor_c
  | .xor, .d => .xor_d
  | .xor, .e => .xor_e
  | .xor, .h => .xor_h
  | .xor, .l => .xor_l
  | .xor, .a => .xor_a
  | .or, .b => .or_b
  | .or, .c => .or_c
  | .or, .d => .or_d
  | .or, .e => .or_e
  | .or, .h => .or_h
  | .or, .l => .or_l
  | .or, .a => .or_a
  | .cp, .b => .cp_b
  | .cp, .c => .cp_c
  | .cp, .d => .cp_d
  | .cp, .e => .cp_e
  | .cp, .h => .cp_h
  | .cp, .l => .cp_l
  | .cp, .a => .cp_a

/-- Memory form (R350): `10ooo110`. -/
def aluHL : AluOp → Instr
  | .add => .add_a_atHL
  | .adc => .adc_a_atHL
  | .sub => .sub_atHL
  | .sbc => .sbc_a_atHL
  | .and => .and_atHL
  | .xor => .xor_atHL
  | .or => .or_atHL
  | .cp => .cp_atHL

/-- Immediate form (R350): `11ooo110 n8`. -/
def aluN : AluOp → Byte → Instr
  | .add, n => .add_a_n8 n
  | .adc, n => .adc_a_n8 n
  | .sub, n => .sub_n8 n
  | .sbc, n => .sbc_a_n8 n
  | .and, n => .and_n8 n
  | .xor, n => .xor_n8 n
  | .or, n => .or_n8 n
  | .cp, n => .cp_n8 n

/-- `INC r` (R376). -/
def incR : Reg8 → Instr
  | .b => .inc_b
  | .c => .inc_c
  | .d => .inc_d
  | .e => .inc_e
  | .h => .inc_h
  | .l => .inc_l
  | .a => .inc_a

/-- `DEC r` (R378). -/
def decR : Reg8 → Instr
  | .b => .dec_b
  | .c => .dec_c
  | .d => .dec_d
  | .e => .dec_e
  | .h => .dec_h
  | .l => .dec_l
  | .a => .dec_a

/-- Rotates and shifts of a register (R435 to R449): `CB 00yyyzzz`. -/
def rotR : RotOp → Reg8 → Instr
  | .rlc, .b => .rlc_b
  | .rlc, .c => .rlc_c
  | .rlc, .d => .rlc_d
  | .rlc, .e => .rlc_e
  | .rlc, .h => .rlc_h
  | .rlc, .l => .rlc_l
  | .rlc, .a => .rlc_a
  | .rrc, .b => .rrc_b
  | .rrc, .c => .rrc_c
  | .rrc, .d => .rrc_d
  | .rrc, .e => .rrc_e
  | .rrc, .h => .rrc_h
  | .rrc, .l => .rrc_l
  | .rrc, .a => .rrc_a
  | .rl, .b => .rl_b
  | .rl, .c => .rl_c
  | .rl, .d => .rl_d
  | .rl, .e => .rl_e
  | .rl, .h => .rl_h
  | .rl, .l => .rl_l
  | .rl, .a => .rl_a
  | .rr, .b => .rr_b
  | .rr, .c => .rr_c
  | .rr, .d => .rr_d
  | .rr, .e => .rr_e
  | .rr, .h => .rr_h
  | .rr, .l => .rr_l
  | .rr, .a => .rr_a
  | .sla, .b => .sla_b
  | .sla, .c => .sla_c
  | .sla, .d => .sla_d
  | .sla, .e => .sla_e
  | .sla, .h => .sla_h
  | .sla, .l => .sla_l
  | .sla, .a => .sla_a
  | .sra, .b => .sra_b
  | .sra, .c => .sra_c
  | .sra, .d => .sra_d
  | .sra, .e => .sra_e
  | .sra, .h => .sra_h
  | .sra, .l => .sra_l
  | .sra, .a => .sra_a
  | .swap, .b => .swap_b
  | .swap, .c => .swap_c
  | .swap, .d => .swap_d
  | .swap, .e => .swap_e
  | .swap, .h => .swap_h
  | .swap, .l => .swap_l
  | .swap, .a => .swap_a
  | .srl, .b => .srl_b
  | .srl, .c => .srl_c
  | .srl, .d => .srl_d
  | .srl, .e => .srl_e
  | .srl, .h => .srl_h
  | .srl, .l => .srl_l
  | .srl, .a => .srl_a

/-- Rotates and shifts of the byte at HL (R436 to R450). -/
def rotHL : RotOp → Instr
  | .rlc => .rlc_atHL
  | .rrc => .rrc_atHL
  | .rl => .rl_atHL
  | .rr => .rr_atHL
  | .sla => .sla_atHL
  | .sra => .sra_atHL
  | .swap => .swap_atHL
  | .srl => .srl_atHL

/-- `BIT b,r` (R451). -/
def bitR : Idx8 → Reg8 → Instr
  | .i0, .b => .bit_0_b
  | .i0, .c => .bit_0_c
  | .i0, .d => .bit_0_d
  | .i0, .e => .bit_0_e
  | .i0, .h => .bit_0_h
  | .i0, .l => .bit_0_l
  | .i0, .a => .bit_0_a
  | .i1, .b => .bit_1_b
  | .i1, .c => .bit_1_c
  | .i1, .d => .bit_1_d
  | .i1, .e => .bit_1_e
  | .i1, .h => .bit_1_h
  | .i1, .l => .bit_1_l
  | .i1, .a => .bit_1_a
  | .i2, .b => .bit_2_b
  | .i2, .c => .bit_2_c
  | .i2, .d => .bit_2_d
  | .i2, .e => .bit_2_e
  | .i2, .h => .bit_2_h
  | .i2, .l => .bit_2_l
  | .i2, .a => .bit_2_a
  | .i3, .b => .bit_3_b
  | .i3, .c => .bit_3_c
  | .i3, .d => .bit_3_d
  | .i3, .e => .bit_3_e
  | .i3, .h => .bit_3_h
  | .i3, .l => .bit_3_l
  | .i3, .a => .bit_3_a
  | .i4, .b => .bit_4_b
  | .i4, .c => .bit_4_c
  | .i4, .d => .bit_4_d
  | .i4, .e => .bit_4_e
  | .i4, .h => .bit_4_h
  | .i4, .l => .bit_4_l
  | .i4, .a => .bit_4_a
  | .i5, .b => .bit_5_b
  | .i5, .c => .bit_5_c
  | .i5, .d => .bit_5_d
  | .i5, .e => .bit_5_e
  | .i5, .h => .bit_5_h
  | .i5, .l => .bit_5_l
  | .i5, .a => .bit_5_a
  | .i6, .b => .bit_6_b
  | .i6, .c => .bit_6_c
  | .i6, .d => .bit_6_d
  | .i6, .e => .bit_6_e
  | .i6, .h => .bit_6_h
  | .i6, .l => .bit_6_l
  | .i6, .a => .bit_6_a
  | .i7, .b => .bit_7_b
  | .i7, .c => .bit_7_c
  | .i7, .d => .bit_7_d
  | .i7, .e => .bit_7_e
  | .i7, .h => .bit_7_h
  | .i7, .l => .bit_7_l
  | .i7, .a => .bit_7_a

/-- `BIT b,(HL)` (R452). -/
def bitHL : Idx8 → Instr
  | .i0 => .bit_0_atHL
  | .i1 => .bit_1_atHL
  | .i2 => .bit_2_atHL
  | .i3 => .bit_3_atHL
  | .i4 => .bit_4_atHL
  | .i5 => .bit_5_atHL
  | .i6 => .bit_6_atHL
  | .i7 => .bit_7_atHL

/-- `RES b,r` (R453). -/
def resR : Idx8 → Reg8 → Instr
  | .i0, .b => .res_0_b
  | .i0, .c => .res_0_c
  | .i0, .d => .res_0_d
  | .i0, .e => .res_0_e
  | .i0, .h => .res_0_h
  | .i0, .l => .res_0_l
  | .i0, .a => .res_0_a
  | .i1, .b => .res_1_b
  | .i1, .c => .res_1_c
  | .i1, .d => .res_1_d
  | .i1, .e => .res_1_e
  | .i1, .h => .res_1_h
  | .i1, .l => .res_1_l
  | .i1, .a => .res_1_a
  | .i2, .b => .res_2_b
  | .i2, .c => .res_2_c
  | .i2, .d => .res_2_d
  | .i2, .e => .res_2_e
  | .i2, .h => .res_2_h
  | .i2, .l => .res_2_l
  | .i2, .a => .res_2_a
  | .i3, .b => .res_3_b
  | .i3, .c => .res_3_c
  | .i3, .d => .res_3_d
  | .i3, .e => .res_3_e
  | .i3, .h => .res_3_h
  | .i3, .l => .res_3_l
  | .i3, .a => .res_3_a
  | .i4, .b => .res_4_b
  | .i4, .c => .res_4_c
  | .i4, .d => .res_4_d
  | .i4, .e => .res_4_e
  | .i4, .h => .res_4_h
  | .i4, .l => .res_4_l
  | .i4, .a => .res_4_a
  | .i5, .b => .res_5_b
  | .i5, .c => .res_5_c
  | .i5, .d => .res_5_d
  | .i5, .e => .res_5_e
  | .i5, .h => .res_5_h
  | .i5, .l => .res_5_l
  | .i5, .a => .res_5_a
  | .i6, .b => .res_6_b
  | .i6, .c => .res_6_c
  | .i6, .d => .res_6_d
  | .i6, .e => .res_6_e
  | .i6, .h => .res_6_h
  | .i6, .l => .res_6_l
  | .i6, .a => .res_6_a
  | .i7, .b => .res_7_b
  | .i7, .c => .res_7_c
  | .i7, .d => .res_7_d
  | .i7, .e => .res_7_e
  | .i7, .h => .res_7_h
  | .i7, .l => .res_7_l
  | .i7, .a => .res_7_a

/-- `RES b,(HL)` (R454). -/
def resHL : Idx8 → Instr
  | .i0 => .res_0_atHL
  | .i1 => .res_1_atHL
  | .i2 => .res_2_atHL
  | .i3 => .res_3_atHL
  | .i4 => .res_4_atHL
  | .i5 => .res_5_atHL
  | .i6 => .res_6_atHL
  | .i7 => .res_7_atHL

/-- `SET b,r` (R455). -/
def setR : Idx8 → Reg8 → Instr
  | .i0, .b => .set_0_b
  | .i0, .c => .set_0_c
  | .i0, .d => .set_0_d
  | .i0, .e => .set_0_e
  | .i0, .h => .set_0_h
  | .i0, .l => .set_0_l
  | .i0, .a => .set_0_a
  | .i1, .b => .set_1_b
  | .i1, .c => .set_1_c
  | .i1, .d => .set_1_d
  | .i1, .e => .set_1_e
  | .i1, .h => .set_1_h
  | .i1, .l => .set_1_l
  | .i1, .a => .set_1_a
  | .i2, .b => .set_2_b
  | .i2, .c => .set_2_c
  | .i2, .d => .set_2_d
  | .i2, .e => .set_2_e
  | .i2, .h => .set_2_h
  | .i2, .l => .set_2_l
  | .i2, .a => .set_2_a
  | .i3, .b => .set_3_b
  | .i3, .c => .set_3_c
  | .i3, .d => .set_3_d
  | .i3, .e => .set_3_e
  | .i3, .h => .set_3_h
  | .i3, .l => .set_3_l
  | .i3, .a => .set_3_a
  | .i4, .b => .set_4_b
  | .i4, .c => .set_4_c
  | .i4, .d => .set_4_d
  | .i4, .e => .set_4_e
  | .i4, .h => .set_4_h
  | .i4, .l => .set_4_l
  | .i4, .a => .set_4_a
  | .i5, .b => .set_5_b
  | .i5, .c => .set_5_c
  | .i5, .d => .set_5_d
  | .i5, .e => .set_5_e
  | .i5, .h => .set_5_h
  | .i5, .l => .set_5_l
  | .i5, .a => .set_5_a
  | .i6, .b => .set_6_b
  | .i6, .c => .set_6_c
  | .i6, .d => .set_6_d
  | .i6, .e => .set_6_e
  | .i6, .h => .set_6_h
  | .i6, .l => .set_6_l
  | .i6, .a => .set_6_a
  | .i7, .b => .set_7_b
  | .i7, .c => .set_7_c
  | .i7, .d => .set_7_d
  | .i7, .e => .set_7_e
  | .i7, .h => .set_7_h
  | .i7, .l => .set_7_l
  | .i7, .a => .set_7_a

/-- `SET b,(HL)` (R456). -/
def setHL : Idx8 → Instr
  | .i0 => .set_0_atHL
  | .i1 => .set_1_atHL
  | .i2 => .set_2_atHL
  | .i3 => .set_3_atHL
  | .i4 => .set_4_atHL
  | .i5 => .set_5_atHL
  | .i6 => .set_6_atHL
  | .i7 => .set_7_atHL

/-- `JR cc,e8` (R474). -/
def jrCc : Cond → Byte → Instr
  | .nz, e => .jr_nz_e8 e
  | .z, e => .jr_z_e8 e
  | .nc, e => .jr_nc_e8 e
  | .c, e => .jr_c_e8 e

/-- `JP cc,n16` (R471). -/
def jpCc : Cond → Addr → Instr
  | .nz, n => .jp_nz_n16 n
  | .z, n => .jp_z_n16 n
  | .nc, n => .jp_nc_n16 n
  | .c, n => .jp_c_n16 n

/-- `CALL cc,n16` (R476). -/
def callCc : Cond → Addr → Instr
  | .nz, n => .call_nz_n16 n
  | .z, n => .call_z_n16 n
  | .nc, n => .call_nc_n16 n
  | .c, n => .call_c_n16 n

/-- `RET cc` (R478). -/
def retCc : Cond → Instr
  | .nz => .ret_nz
  | .z => .ret_z
  | .nc => .ret_nc
  | .c => .ret_c

/-- `RST t`, t = y * 8 (R480). -/
def rst : Idx8 → Instr
  | .i0 => .rst_00
  | .i1 => .rst_08
  | .i2 => .rst_10
  | .i3 => .rst_18
  | .i4 => .rst_20
  | .i5 => .rst_28
  | .i6 => .rst_30
  | .i7 => .rst_38

/-- The illegal opcodes (R502). -/
def illegal : IllegalOp → Instr
  | .xd3 => .illegal_d3
  | .xdb => .illegal_db
  | .xdd => .illegal_dd
  | .xe3 => .illegal_e3
  | .xe4 => .illegal_e4
  | .xeb => .illegal_eb
  | .xec => .illegal_ec
  | .xed => .illegal_ed
  | .xf4 => .illegal_f4
  | .xfc => .illegal_fc
  | .xfd => .illegal_fd

end Instr

/-! ## Field decode tables (R263) -/

/-- `r8[i]`: `none` is index 6, the memory operand `(HL)`. -/
def r8 : Nat → Option Reg8
  | 0 => some .b
  | 1 => some .c
  | 2 => some .d
  | 3 => some .e
  | 4 => some .h
  | 5 => some .l
  | 6 => none
  | _ => some .a

/-- `rp[p]`. -/
def rp : Nat → Rp
  | 0 => .bc
  | 1 => .de
  | 2 => .hl
  | _ => .sp

/-- `rp2[p]`. -/
def rp2 : Nat → Rp2
  | 0 => .bc
  | 1 => .de
  | 2 => .hl
  | _ => .af

/-- `cc[i]`. -/
def cc : Nat → Cond
  | 0 => .nz
  | 1 => .z
  | 2 => .nc
  | _ => .c

/-- `alu[y]`. -/
def alu : Nat → AluOp
  | 0 => .add
  | 1 => .adc
  | 2 => .sub
  | 3 => .sbc
  | 4 => .and
  | 5 => .xor
  | 6 => .or
  | _ => .cp

/-- `rot[y]`. -/
def rot : Nat → RotOp
  | 0 => .rlc
  | 1 => .rrc
  | 2 => .rl
  | 3 => .rr
  | 4 => .sla
  | 5 => .sra
  | 6 => .swap
  | _ => .srl

/-- The index `y`, 0..7. -/
def idx8 : Nat → Idx8
  | 0 => .i0
  | 1 => .i1
  | 2 => .i2
  | 3 => .i3
  | 4 => .i4
  | 5 => .i5
  | 6 => .i6
  | _ => .i7

/-! ## The opcode maps -/

/-- R266: the instruction of the second byte `o` of the 0xCB page. -/
def decodeCb (o : Byte) : Instr :=
  let y := fieldY o
  match fieldX o, r8 (fieldZ o) with
  | 0, some r => .rotR (rot y) r
  | 0, none => .rotHL (rot y)
  | 1, some r => .bitR (idx8 y) r
  | 1, none => .bitHL (idx8 y)
  | 2, some r => .resR (idx8 y) r
  | 2, none => .resHL (idx8 y)
  | _, some r => .setR (idx8 y) r
  | _, none => .setHL (idx8 y)

/-- R265, x = 0: by `z`, then `y`, `q` and `p`. -/
def decodeX0 (o b1 : Byte) (n16 : Addr) : Instr :=
  let y := fieldY o
  match fieldZ o with
  | 0 =>
    match y with
    | 0 => .nop
    | 1 => .ld_atN16_sp n16
    | 2 => .stop b1
    | 3 => .jr_e8 b1
    | _ => .jrCc (cc (y - 4)) b1
  | 1 => if fieldQ o then .addHLRp (rp (fieldP o)) else .ldRpN (rp (fieldP o)) n16
  | 2 =>
    match y with
    | 0 => .ld_atBC_a
    | 1 => .ld_a_atBC
    | 2 => .ld_atDE_a
    | 3 => .ld_a_atDE
    | 4 => .ld_atHLI_a
    | 5 => .ld_a_atHLI
    | 6 => .ld_atHLD_a
    | _ => .ld_a_atHLD
  | 3 => if fieldQ o then .decRp (rp (fieldP o)) else .incRp (rp (fieldP o))
  | 4 =>
    match r8 y with
    | some r => .incR r
    | none => .inc_atHL
  | 5 =>
    match r8 y with
    | some r => .decR r
    | none => .dec_atHL
  | 6 =>
    match r8 y with
    | some r => .ldRN r b1
    | none => .ld_atHL_n8 b1
  | _ =>
    match y with
    | 0 => .rlca
    | 1 => .rrca
    | 2 => .rla
    | 3 => .rra
    | 4 => .daa
    | 5 => .cpl
    | 6 => .scf
    | _ => .ccf

/-- R265, x = 1: `LD r8[y],r8[z]`, with `HALT` where both are index 6. -/
def decodeX1 (o : Byte) : Instr :=
  match r8 (fieldY o), r8 (fieldZ o) with
  | some dst, some src => .ldRR dst src
  | some dst, none => .ldRHL dst
  | none, some src => .ldHLR src
  | none, none => .halt

/-- R265, x = 2: `alu[y] r8[z]`. -/
def decodeX2 (o : Byte) : Instr :=
  match r8 (fieldZ o) with
  | some src => .aluR (alu (fieldY o)) src
  | none => .aluHL (alu (fieldY o))

/-- R265, x = 3: by `z`, then `y`, `q` and `p`. `b1` is the byte after the opcode. -/
def decodeX3 (o b1 : Byte) (n16 : Addr) : Instr :=
  let y := fieldY o
  match fieldZ o with
  | 0 =>
    match y with
    | 4 => .ldh_atA8_a b1
    | 5 => .add_sp_e8 b1
    | 6 => .ldh_a_atA8 b1
    | 7 => .ld_hl_sp_e8 b1
    | _ => .retCc (cc y)
  | 1 =>
    if fieldQ o then
      match fieldP o with
      | 0 => .ret
      | 1 => .reti
      | 2 => .jp_hl
      | _ => .ld_sp_hl
    else .pop (rp2 (fieldP o))
  | 2 =>
    match y with
    | 4 => .ld_atC_a
    | 5 => .ld_atN16_a n16
    | 6 => .ld_a_atC
    | 7 => .ld_a_atN16 n16
    | _ => .jpCc (cc y) n16
  | 3 =>
    match y with
    | 0 => .jp_n16 n16
    | 1 => decodeCb b1
    | 2 => .illegal_d3
    | 3 => .illegal_db
    | 4 => .illegal_e3
    | 5 => .illegal_eb
    | 6 => .di
    | _ => .ei
  | 4 =>
    match y with
    | 4 => .illegal_e4
    | 5 => .illegal_ec
    | 6 => .illegal_f4
    | 7 => .illegal_fc
    | _ => .callCc (cc y) n16
  | 5 =>
    if fieldQ o then
      match fieldP o with
      | 0 => .call_n16 n16
      | 1 => .illegal_dd
      | 2 => .illegal_ed
      | _ => .illegal_fd
    else .push (rp2 (fieldP o))
  | 6 => .aluN (alu (fieldY o)) b1
  | _ => .rst (idx8 y)

/-- R265 and R266: the instruction whose bytes are `o`, `b1`, `b2`, of which it has as many as `instrLength` says. -/
def decodeBytes (o b1 b2 : Byte) : Instr :=
  match fieldX o with
  | 0 => decodeX0 o b1 (word16 b2 b1)
  | 1 => decodeX1 o
  | 2 => decodeX2 o
  | _ => decodeX3 o b1 (word16 b2 b1)

/-- R267: the first bytes of three-byte instructions. -/
def threeByteOpcodes : List Byte :=
  [0x01, 0x08, 0x11, 0x21, 0x31, 0xC2, 0xC3, 0xC4, 0xCA, 0xCC, 0xCD, 0xD2, 0xD4, 0xDA, 0xDC, 0xEA, 0xFA]

/-- R267: the first bytes of two-byte instructions. -/
def twoByteOpcodes : List Byte :=
  [0x06, 0x0E, 0x10, 0x16, 0x18, 0x1E, 0x20, 0x26, 0x28, 0x2E, 0x30, 0x36, 0x38, 0x3E, 0xC6, 0xCB, 0xCE, 0xD6, 0xDE,
    0xE0, 0xE6, 0xE8, 0xEE, 0xF0, 0xF6, 0xF8, 0xFE]

/-- R267: the length of an instruction, from its first byte alone. An illegal opcode has no length (R269); nothing
is fetched after it, which is what 1 says here. -/
def instrLength (o : Byte) : Nat :=
  if o ∈ threeByteOpcodes then 3 else if o ∈ twoByteOpcodes then 2 else 1

/-- Why the decoder reads no instruction from a list of bytes. -/
inductive DecodeError where
  /-- There is no byte to read. -/
  | noBytes
  /-- The list ends inside the instruction that starts with this opcode. -/
  | truncated (opcode : Byte)
deriving DecidableEq, Repr

/-- The decoder. It reads the instruction at the head of a list of bytes and ignores the bytes after it. Every
opcode byte starts an instruction (R265, R269, R270), so only a list that is too short is rejected. Given the prefix
byte 0xCB alone it answers the table's row of the prefix (R501; log entry 13). -/
def decode : List Byte → Except DecodeError Instr
  | [] => .error .noBytes
  | [o] => if instrLength o = 1 then .ok (decodeBytes o 0 0) else if o = 0xCB then .ok .prefix_cb else .error (.truncated o)
  | [o, b1] => if instrLength o ≤ 2 then .ok (decodeBytes o b1 0) else .error (.truncated o)
  | o :: b1 :: b2 :: _ => .ok (decodeBytes o b1 b2)

/-- The bytes, in the order the hardware stores them, of an instruction whose bits are `w` as
`spec/opcode_table.json` numbers them (log entry 12). A 16-bit row of the table is one of the 0xCB page and holds the
prefix in bits 15..8; every other row is its opcode byte, and its operand bytes follow at rising bit numbers. The row
PREFIX_CB is the prefix byte alone. -/
def tableBytes (nbits w : Nat) : List Byte :=
  let b (k : Nat) : Byte := BitVec.ofNat 8 (w >>> (8 * k))
  if nbits = 16 ∧ b 1 = 0xCB then [0xCB, b 0, 0]
  else if nbits = 8 ∧ b 0 = 0xCB then [0xCB]
  else [b 0, if 8 < nbits then b 1 else 0, if 16 < nbits then b 2 else 0]

/-- The instruction that the decoder reads from an instruction whose bits are `w`, numbered as the table numbers them. -/
def decodeTableWord (nbits w : Nat) : Option Instr := (decode (tableBytes nbits w)).toOption

/-! ## The encoder -/

/-- The bytes of an instruction, at rising addresses: the row's `match` and `format` in `spec/opcode_table.json`
(formats of R261). -/
def encode : Instr → List Byte
  | .nop => [0x00]
  | .ld_bc_n16 v => [0x01, loByte v, hiByte v]
  | .ld_atBC_a => [0x02]
  | .inc_bc => [0x03]
  | .inc_b => [0x04]
  | .dec_b => [0x05]
  | .ld_b_n8 v => [0x06, v]
  | .rlca => [0x07]
  | .ld_atN16_sp v => [0x08, loByte v, hiByte v]
  | .add_hl_bc => [0x09]
  | .ld_a_atBC => [0x0A]
  | .dec_bc => [0x0B]
  | .inc_c => [0x0C]
  | .dec_c => [0x0D]
  | .ld_c_n8 v => [0x0E, v]
  | .rrca => [0x0F]
  | .stop v => [0x10, v]
  | .ld_de_n16 v => [0x11, loByte v, hiByte v]
  | .ld_atDE_a => [0x12]
  | .inc_de => [0x13]
  | .inc_d => [0x14]
  | .dec_d => [0x15]
  | .ld_d_n8 v => [0x16, v]
  | .rla => [0x17]
  | .jr_e8 v => [0x18, v]
  | .add_hl_de => [0x19]
  | .ld_a_atDE => [0x1A]
  | .dec_de => [0x1B]
  | .inc_e => [0x1C]
  | .dec_e => [0x1D]
  | .ld_e_n8 v => [0x1E, v]
  | .rra => [0x1F]
  | .jr_nz_e8 v => [0x20, v]
  | .ld_hl_n16 v => [0x21, loByte v, hiByte v]
  | .ld_atHLI_a => [0x22]
  | .inc_hl => [0x23]
  | .inc_h => [0x24]
  | .dec_h => [0x25]
  | .ld_h_n8 v => [0x26, v]
  | .daa => [0x27]
  | .jr_z_e8 v => [0x28, v]
  | .add_hl_hl => [0x29]
  | .ld_a_atHLI => [0x2A]
  | .dec_hl => [0x2B]
  | .inc_l => [0x2C]
  | .dec_l => [0x2D]
  | .ld_l_n8 v => [0x2E, v]
  | .cpl => [0x2F]
  | .jr_nc_e8 v => [0x30, v]
  | .ld_sp_n16 v => [0x31, loByte v, hiByte v]
  | .ld_atHLD_a => [0x32]
  | .inc_sp => [0x33]
  | .inc_atHL => [0x34]
  | .dec_atHL => [0x35]
  | .ld_atHL_n8 v => [0x36, v]
  | .scf => [0x37]
  | .jr_c_e8 v => [0x38, v]
  | .add_hl_sp => [0x39]
  | .ld_a_atHLD => [0x3A]
  | .dec_sp => [0x3B]
  | .inc_a => [0x3C]
  | .dec_a => [0x3D]
  | .ld_a_n8 v => [0x3E, v]
  | .ccf => [0x3F]
  | .ld_b_b => [0x40]
  | .ld_b_c => [0x41]
  | .ld_b_d => [0x42]
  | .ld_b_e => [0x43]
  | .ld_b_h => [0x44]
  | .ld_b_l => [0x45]
  | .ld_b_atHL => [0x46]
  | .ld_b_a => [0x47]
  | .ld_c_b => [0x48]
  | .ld_c_c => [0x49]
  | .ld_c_d => [0x4A]
  | .ld_c_e => [0x4B]
  | .ld_c_h => [0x4C]
  | .ld_c_l => [0x4D]
  | .ld_c_atHL => [0x4E]
  | .ld_c_a => [0x4F]
  | .ld_d_b => [0x50]
  | .ld_d_c => [0x51]
  | .ld_d_d => [0x52]
  | .ld_d_e => [0x53]
  | .ld_d_h => [0x54]
  | .ld_d_l => [0x55]
  | .ld_d_atHL => [0x56]
  | .ld_d_a => [0x57]
  | .ld_e_b => [0x58]
  | .ld_e_c => [0x59]
  | .ld_e_d => [0x5A]
  | .ld_e_e => [0x5B]
  | .ld_e_h => [0x5C]
  | .ld_e_l => [0x5D]
  | .ld_e_atHL => [0x5E]
  | .ld_e_a => [0x5F]
  | .ld_h_b => [0x60]
  | .ld_h_c => [0x61]
  | .ld_h_d => [0x62]
  | .ld_h_e => [0x63]
  | .ld_h_h => [0x64]
  | .ld_h_l => [0x65]
  | .ld_h_atHL => [0x66]
  | .ld_h_a => [0x67]
  | .ld_l_b => [0x68]
  | .ld_l_c => [0x69]
  | .ld_l_d => [0x6A]
  | .ld_l_e => [0x6B]
  | .ld_l_h => [0x6C]
  | .ld_l_l => [0x6D]
  | .ld_l_atHL => [0x6E]
  | .ld_l_a => [0x6F]
  | .ld_atHL_b => [0x70]
  | .ld_atHL_c => [0x71]
  | .ld_atHL_d => [0x72]
  | .ld_atHL_e => [0x73]
  | .ld_atHL_h => [0x74]
  | .ld_atHL_l => [0x75]
  | .halt => [0x76]
  | .ld_atHL_a => [0x77]
  | .ld_a_b => [0x78]
  | .ld_a_c => [0x79]
  | .ld_a_d => [0x7A]
  | .ld_a_e => [0x7B]
  | .ld_a_h => [0x7C]
  | .ld_a_l => [0x7D]
  | .ld_a_atHL => [0x7E]
  | .ld_a_a => [0x7F]
  | .add_a_b => [0x80]
  | .add_a_c => [0x81]
  | .add_a_d => [0x82]
  | .add_a_e => [0x83]
  | .add_a_h => [0x84]
  | .add_a_l => [0x85]
  | .add_a_atHL => [0x86]
  | .add_a_a => [0x87]
  | .adc_a_b => [0x88]
  | .adc_a_c => [0x89]
  | .adc_a_d => [0x8A]
  | .adc_a_e => [0x8B]
  | .adc_a_h => [0x8C]
  | .adc_a_l => [0x8D]
  | .adc_a_atHL => [0x8E]
  | .adc_a_a => [0x8F]
  | .sub_b => [0x90]
  | .sub_c => [0x91]
  | .sub_d => [0x92]
  | .sub_e => [0x93]
  | .sub_h => [0x94]
  | .sub_l => [0x95]
  | .sub_atHL => [0x96]
  | .sub_a => [0x97]
  | .sbc_a_b => [0x98]
  | .sbc_a_c => [0x99]
  | .sbc_a_d => [0x9A]
  | .sbc_a_e => [0x9B]
  | .sbc_a_h => [0x9C]
  | .sbc_a_l => [0x9D]
  | .sbc_a_atHL => [0x9E]
  | .sbc_a_a => [0x9F]
  | .and_b => [0xA0]
  | .and_c => [0xA1]
  | .and_d => [0xA2]
  | .and_e => [0xA3]
  | .and_h => [0xA4]
  | .and_l => [0xA5]
  | .and_atHL => [0xA6]
  | .and_a => [0xA7]
  | .xor_b => [0xA8]
  | .xor_c => [0xA9]
  | .xor_d => [0xAA]
  | .xor_e => [0xAB]
  | .xor_h => [0xAC]
  | .xor_l => [0xAD]
  | .xor_atHL => [0xAE]
  | .xor_a => [0xAF]
  | .or_b => [0xB0]
  | .or_c => [0xB1]
  | .or_d => [0xB2]
  | .or_e => [0xB3]
  | .or_h => [0xB4]
  | .or_l => [0xB5]
  | .or_atHL => [0xB6]
  | .or_a => [0xB7]
  | .cp_b => [0xB8]
  | .cp_c => [0xB9]
  | .cp_d => [0xBA]
  | .cp_e => [0xBB]
  | .cp_h => [0xBC]
  | .cp_l => [0xBD]
  | .cp_atHL => [0xBE]
  | .cp_a => [0xBF]
  | .ret_nz => [0xC0]
  | .pop_bc => [0xC1]
  | .jp_nz_n16 v => [0xC2, loByte v, hiByte v]
  | .jp_n16 v => [0xC3, loByte v, hiByte v]
  | .call_nz_n16 v => [0xC4, loByte v, hiByte v]
  | .push_bc => [0xC5]
  | .add_a_n8 v => [0xC6, v]
  | .rst_00 => [0xC7]
  | .ret_z => [0xC8]
  | .ret => [0xC9]
  | .jp_z_n16 v => [0xCA, loByte v, hiByte v]
  | .prefix_cb => [0xCB, 0xCB]
  | .call_z_n16 v => [0xCC, loByte v, hiByte v]
  | .call_n16 v => [0xCD, loByte v, hiByte v]
  | .adc_a_n8 v => [0xCE, v]
  | .rst_08 => [0xCF]
  | .ret_nc => [0xD0]
  | .pop_de => [0xD1]
  | .jp_nc_n16 v => [0xD2, loByte v, hiByte v]
  | .illegal_d3 => [0xD3]
  | .call_nc_n16 v => [0xD4, loByte v, hiByte v]
  | .push_de => [0xD5]
  | .sub_n8 v => [0xD6, v]
  | .rst_10 => [0xD7]
  | .ret_c => [0xD8]
  | .reti => [0xD9]
  | .jp_c_n16 v => [0xDA, loByte v, hiByte v]
  | .illegal_db => [0xDB]
  | .call_c_n16 v => [0xDC, loByte v, hiByte v]
  | .illegal_dd => [0xDD]
  | .sbc_a_n8 v => [0xDE, v]
  | .rst_18 => [0xDF]
  | .ldh_atA8_a v => [0xE0, v]
  | .pop_hl => [0xE1]
  | .ld_atC_a => [0xE2]
  | .illegal_e3 => [0xE3]
  | .illegal_e4 => [0xE4]
  | .push_hl => [0xE5]
  | .and_n8 v => [0xE6, v]
  | .rst_20 => [0xE7]
  | .add_sp_e8 v => [0xE8, v]
  | .jp_hl => [0xE9]
  | .ld_atN16_a v => [0xEA, loByte v, hiByte v]
  | .illegal_eb => [0xEB]
  | .illegal_ec => [0xEC]
  | .illegal_ed => [0xED]
  | .xor_n8 v => [0xEE, v]
  | .rst_28 => [0xEF]
  | .ldh_a_atA8 v => [0xF0, v]
  | .pop_af => [0xF1]
  | .ld_a_atC => [0xF2]
  | .di => [0xF3]
  | .illegal_f4 => [0xF4]
  | .push_af => [0xF5]
  | .or_n8 v => [0xF6, v]
  | .rst_30 => [0xF7]
  | .ld_hl_sp_e8 v => [0xF8, v]
  | .ld_sp_hl => [0xF9]
  | .ld_a_atN16 v => [0xFA, loByte v, hiByte v]
  | .ei => [0xFB]
  | .illegal_fc => [0xFC]
  | .illegal_fd => [0xFD]
  | .cp_n8 v => [0xFE, v]
  | .rst_38 => [0xFF]
  | .rlc_b => [0xCB, 0x00]
  | .rlc_c => [0xCB, 0x01]
  | .rlc_d => [0xCB, 0x02]
  | .rlc_e => [0xCB, 0x03]
  | .rlc_h => [0xCB, 0x04]
  | .rlc_l => [0xCB, 0x05]
  | .rlc_atHL => [0xCB, 0x06]
  | .rlc_a => [0xCB, 0x07]
  | .rrc_b => [0xCB, 0x08]
  | .rrc_c => [0xCB, 0x09]
  | .rrc_d => [0xCB, 0x0A]
  | .rrc_e => [0xCB, 0x0B]
  | .rrc_h => [0xCB, 0x0C]
  | .rrc_l => [0xCB, 0x0D]
  | .rrc_atHL => [0xCB, 0x0E]
  | .rrc_a => [0xCB, 0x0F]
  | .rl_b => [0xCB, 0x10]
  | .rl_c => [0xCB, 0x11]
  | .rl_d => [0xCB, 0x12]
  | .rl_e => [0xCB, 0x13]
  | .rl_h => [0xCB, 0x14]
  | .rl_l => [0xCB, 0x15]
  | .rl_atHL => [0xCB, 0x16]
  | .rl_a => [0xCB, 0x17]
  | .rr_b => [0xCB, 0x18]
  | .rr_c => [0xCB, 0x19]
  | .rr_d => [0xCB, 0x1A]
  | .rr_e => [0xCB, 0x1B]
  | .rr_h => [0xCB, 0x1C]
  | .rr_l => [0xCB, 0x1D]
  | .rr_atHL => [0xCB, 0x1E]
  | .rr_a => [0xCB, 0x1F]
  | .sla_b => [0xCB, 0x20]
  | .sla_c => [0xCB, 0x21]
  | .sla_d => [0xCB, 0x22]
  | .sla_e => [0xCB, 0x23]
  | .sla_h => [0xCB, 0x24]
  | .sla_l => [0xCB, 0x25]
  | .sla_atHL => [0xCB, 0x26]
  | .sla_a => [0xCB, 0x27]
  | .sra_b => [0xCB, 0x28]
  | .sra_c => [0xCB, 0x29]
  | .sra_d => [0xCB, 0x2A]
  | .sra_e => [0xCB, 0x2B]
  | .sra_h => [0xCB, 0x2C]
  | .sra_l => [0xCB, 0x2D]
  | .sra_atHL => [0xCB, 0x2E]
  | .sra_a => [0xCB, 0x2F]
  | .swap_b => [0xCB, 0x30]
  | .swap_c => [0xCB, 0x31]
  | .swap_d => [0xCB, 0x32]
  | .swap_e => [0xCB, 0x33]
  | .swap_h => [0xCB, 0x34]
  | .swap_l => [0xCB, 0x35]
  | .swap_atHL => [0xCB, 0x36]
  | .swap_a => [0xCB, 0x37]
  | .srl_b => [0xCB, 0x38]
  | .srl_c => [0xCB, 0x39]
  | .srl_d => [0xCB, 0x3A]
  | .srl_e => [0xCB, 0x3B]
  | .srl_h => [0xCB, 0x3C]
  | .srl_l => [0xCB, 0x3D]
  | .srl_atHL => [0xCB, 0x3E]
  | .srl_a => [0xCB, 0x3F]
  | .bit_0_b => [0xCB, 0x40]
  | .bit_0_c => [0xCB, 0x41]
  | .bit_0_d => [0xCB, 0x42]
  | .bit_0_e => [0xCB, 0x43]
  | .bit_0_h => [0xCB, 0x44]
  | .bit_0_l => [0xCB, 0x45]
  | .bit_0_atHL => [0xCB, 0x46]
  | .bit_0_a => [0xCB, 0x47]
  | .bit_1_b => [0xCB, 0x48]
  | .bit_1_c => [0xCB, 0x49]
  | .bit_1_d => [0xCB, 0x4A]
  | .bit_1_e => [0xCB, 0x4B]
  | .bit_1_h => [0xCB, 0x4C]
  | .bit_1_l => [0xCB, 0x4D]
  | .bit_1_atHL => [0xCB, 0x4E]
  | .bit_1_a => [0xCB, 0x4F]
  | .bit_2_b => [0xCB, 0x50]
  | .bit_2_c => [0xCB, 0x51]
  | .bit_2_d => [0xCB, 0x52]
  | .bit_2_e => [0xCB, 0x53]
  | .bit_2_h => [0xCB, 0x54]
  | .bit_2_l => [0xCB, 0x55]
  | .bit_2_atHL => [0xCB, 0x56]
  | .bit_2_a => [0xCB, 0x57]
  | .bit_3_b => [0xCB, 0x58]
  | .bit_3_c => [0xCB, 0x59]
  | .bit_3_d => [0xCB, 0x5A]
  | .bit_3_e => [0xCB, 0x5B]
  | .bit_3_h => [0xCB, 0x5C]
  | .bit_3_l => [0xCB, 0x5D]
  | .bit_3_atHL => [0xCB, 0x5E]
  | .bit_3_a => [0xCB, 0x5F]
  | .bit_4_b => [0xCB, 0x60]
  | .bit_4_c => [0xCB, 0x61]
  | .bit_4_d => [0xCB, 0x62]
  | .bit_4_e => [0xCB, 0x63]
  | .bit_4_h => [0xCB, 0x64]
  | .bit_4_l => [0xCB, 0x65]
  | .bit_4_atHL => [0xCB, 0x66]
  | .bit_4_a => [0xCB, 0x67]
  | .bit_5_b => [0xCB, 0x68]
  | .bit_5_c => [0xCB, 0x69]
  | .bit_5_d => [0xCB, 0x6A]
  | .bit_5_e => [0xCB, 0x6B]
  | .bit_5_h => [0xCB, 0x6C]
  | .bit_5_l => [0xCB, 0x6D]
  | .bit_5_atHL => [0xCB, 0x6E]
  | .bit_5_a => [0xCB, 0x6F]
  | .bit_6_b => [0xCB, 0x70]
  | .bit_6_c => [0xCB, 0x71]
  | .bit_6_d => [0xCB, 0x72]
  | .bit_6_e => [0xCB, 0x73]
  | .bit_6_h => [0xCB, 0x74]
  | .bit_6_l => [0xCB, 0x75]
  | .bit_6_atHL => [0xCB, 0x76]
  | .bit_6_a => [0xCB, 0x77]
  | .bit_7_b => [0xCB, 0x78]
  | .bit_7_c => [0xCB, 0x79]
  | .bit_7_d => [0xCB, 0x7A]
  | .bit_7_e => [0xCB, 0x7B]
  | .bit_7_h => [0xCB, 0x7C]
  | .bit_7_l => [0xCB, 0x7D]
  | .bit_7_atHL => [0xCB, 0x7E]
  | .bit_7_a => [0xCB, 0x7F]
  | .res_0_b => [0xCB, 0x80]
  | .res_0_c => [0xCB, 0x81]
  | .res_0_d => [0xCB, 0x82]
  | .res_0_e => [0xCB, 0x83]
  | .res_0_h => [0xCB, 0x84]
  | .res_0_l => [0xCB, 0x85]
  | .res_0_atHL => [0xCB, 0x86]
  | .res_0_a => [0xCB, 0x87]
  | .res_1_b => [0xCB, 0x88]
  | .res_1_c => [0xCB, 0x89]
  | .res_1_d => [0xCB, 0x8A]
  | .res_1_e => [0xCB, 0x8B]
  | .res_1_h => [0xCB, 0x8C]
  | .res_1_l => [0xCB, 0x8D]
  | .res_1_atHL => [0xCB, 0x8E]
  | .res_1_a => [0xCB, 0x8F]
  | .res_2_b => [0xCB, 0x90]
  | .res_2_c => [0xCB, 0x91]
  | .res_2_d => [0xCB, 0x92]
  | .res_2_e => [0xCB, 0x93]
  | .res_2_h => [0xCB, 0x94]
  | .res_2_l => [0xCB, 0x95]
  | .res_2_atHL => [0xCB, 0x96]
  | .res_2_a => [0xCB, 0x97]
  | .res_3_b => [0xCB, 0x98]
  | .res_3_c => [0xCB, 0x99]
  | .res_3_d => [0xCB, 0x9A]
  | .res_3_e => [0xCB, 0x9B]
  | .res_3_h => [0xCB, 0x9C]
  | .res_3_l => [0xCB, 0x9D]
  | .res_3_atHL => [0xCB, 0x9E]
  | .res_3_a => [0xCB, 0x9F]
  | .res_4_b => [0xCB, 0xA0]
  | .res_4_c => [0xCB, 0xA1]
  | .res_4_d => [0xCB, 0xA2]
  | .res_4_e => [0xCB, 0xA3]
  | .res_4_h => [0xCB, 0xA4]
  | .res_4_l => [0xCB, 0xA5]
  | .res_4_atHL => [0xCB, 0xA6]
  | .res_4_a => [0xCB, 0xA7]
  | .res_5_b => [0xCB, 0xA8]
  | .res_5_c => [0xCB, 0xA9]
  | .res_5_d => [0xCB, 0xAA]
  | .res_5_e => [0xCB, 0xAB]
  | .res_5_h => [0xCB, 0xAC]
  | .res_5_l => [0xCB, 0xAD]
  | .res_5_atHL => [0xCB, 0xAE]
  | .res_5_a => [0xCB, 0xAF]
  | .res_6_b => [0xCB, 0xB0]
  | .res_6_c => [0xCB, 0xB1]
  | .res_6_d => [0xCB, 0xB2]
  | .res_6_e => [0xCB, 0xB3]
  | .res_6_h => [0xCB, 0xB4]
  | .res_6_l => [0xCB, 0xB5]
  | .res_6_atHL => [0xCB, 0xB6]
  | .res_6_a => [0xCB, 0xB7]
  | .res_7_b => [0xCB, 0xB8]
  | .res_7_c => [0xCB, 0xB9]
  | .res_7_d => [0xCB, 0xBA]
  | .res_7_e => [0xCB, 0xBB]
  | .res_7_h => [0xCB, 0xBC]
  | .res_7_l => [0xCB, 0xBD]
  | .res_7_atHL => [0xCB, 0xBE]
  | .res_7_a => [0xCB, 0xBF]
  | .set_0_b => [0xCB, 0xC0]
  | .set_0_c => [0xCB, 0xC1]
  | .set_0_d => [0xCB, 0xC2]
  | .set_0_e => [0xCB, 0xC3]
  | .set_0_h => [0xCB, 0xC4]
  | .set_0_l => [0xCB, 0xC5]
  | .set_0_atHL => [0xCB, 0xC6]
  | .set_0_a => [0xCB, 0xC7]
  | .set_1_b => [0xCB, 0xC8]
  | .set_1_c => [0xCB, 0xC9]
  | .set_1_d => [0xCB, 0xCA]
  | .set_1_e => [0xCB, 0xCB]
  | .set_1_h => [0xCB, 0xCC]
  | .set_1_l => [0xCB, 0xCD]
  | .set_1_atHL => [0xCB, 0xCE]
  | .set_1_a => [0xCB, 0xCF]
  | .set_2_b => [0xCB, 0xD0]
  | .set_2_c => [0xCB, 0xD1]
  | .set_2_d => [0xCB, 0xD2]
  | .set_2_e => [0xCB, 0xD3]
  | .set_2_h => [0xCB, 0xD4]
  | .set_2_l => [0xCB, 0xD5]
  | .set_2_atHL => [0xCB, 0xD6]
  | .set_2_a => [0xCB, 0xD7]
  | .set_3_b => [0xCB, 0xD8]
  | .set_3_c => [0xCB, 0xD9]
  | .set_3_d => [0xCB, 0xDA]
  | .set_3_e => [0xCB, 0xDB]
  | .set_3_h => [0xCB, 0xDC]
  | .set_3_l => [0xCB, 0xDD]
  | .set_3_atHL => [0xCB, 0xDE]
  | .set_3_a => [0xCB, 0xDF]
  | .set_4_b => [0xCB, 0xE0]
  | .set_4_c => [0xCB, 0xE1]
  | .set_4_d => [0xCB, 0xE2]
  | .set_4_e => [0xCB, 0xE3]
  | .set_4_h => [0xCB, 0xE4]
  | .set_4_l => [0xCB, 0xE5]
  | .set_4_atHL => [0xCB, 0xE6]
  | .set_4_a => [0xCB, 0xE7]
  | .set_5_b => [0xCB, 0xE8]
  | .set_5_c => [0xCB, 0xE9]
  | .set_5_d => [0xCB, 0xEA]
  | .set_5_e => [0xCB, 0xEB]
  | .set_5_h => [0xCB, 0xEC]
  | .set_5_l => [0xCB, 0xED]
  | .set_5_atHL => [0xCB, 0xEE]
  | .set_5_a => [0xCB, 0xEF]
  | .set_6_b => [0xCB, 0xF0]
  | .set_6_c => [0xCB, 0xF1]
  | .set_6_d => [0xCB, 0xF2]
  | .set_6_e => [0xCB, 0xF3]
  | .set_6_h => [0xCB, 0xF4]
  | .set_6_l => [0xCB, 0xF5]
  | .set_6_atHL => [0xCB, 0xF6]
  | .set_6_a => [0xCB, 0xF7]
  | .set_7_b => [0xCB, 0xF8]
  | .set_7_c => [0xCB, 0xF9]
  | .set_7_d => [0xCB, 0xFA]
  | .set_7_e => [0xCB, 0xFB]
  | .set_7_h => [0xCB, 0xFC]
  | .set_7_l => [0xCB, 0xFD]
  | .set_7_atHL => [0xCB, 0xFE]
  | .set_7_a => [0xCB, 0xFF]

/-- The opcode byte of an instruction: its first byte (R260), 0xCB on the 0xCB page (log entry 7). -/
def opcodeOf (i : Instr) : Byte := (encode i).headD 0

end Sys2Proof
end

