-- ==== Sys2Proof/Config.lean ====
section
/-! DEFINITION. What an implementation fixes: the open parameters of `spec/00_scope.md` rule R7 that no argument
of an operation carries, as constants WITHOUT a body, and the fixed parameters of rule R6. -/

namespace Sys2Proof.Config

/-- `UNMODELLED_READ` (R7, R9): the value of the `n`-th draw. Free: nothing in Lean can evaluate it. Log entry 4. -/
opaque unmodelledRead : Nat → Byte

/-- `SAVE_STATE_VERSION` (R7, R790). Free. Log entry 17. -/
opaque saveStateVersion : Nat

/-- `SAVE_STATE_MAX` (R7, R790). Free. Log entry 17. -/
opaque saveStateMax : Nat

/-- The size in bytes that `SAVE_STATE_LAYOUT` gives a blob for a cartridge with this many bytes of RAM (R7, R790).
Free. Log entry 17. -/
opaque saveStateSize : Nat → Nat

/-- Dots (T-cycles) of one line (R6, `62_ppu.md` R663). -/
def lineDots : Nat := 456

/-- Lines of one frame (R6, R663). -/
def frameLines : Nat := 154

/-- T-cycles of one frame: the budget of `doTick` (R6, `80_host_interface.md` R781). -/
def frameCycles : Nat := 70224

/-- Pixels of one line (R6). -/
def lineWidth : Nat := 160

/-- The length of the OAM DMA busy period in T-cycles (`20_memory.md` R130). -/
def dmaCycles : Nat := 640

/-- Bytes of a ROM bank (R6). -/
def romBankSize : Nat := 16384

/-- Bytes of a cartridge RAM bank (R6). -/
def ramBankSize : Nat := 8192

/-- The engine's ROM limit in bytes (R6, `21_cartridge_mbc.md` R182). -/
def romLimit : Nat := 8388608

end Sys2Proof.Config
end

