-- ==== Sys2Proof/Machine/State.lean ====
section
/-! DEFINITION. The state of the machine as plain data (`spec/10_state.md`), the reasons a step can stop, and the
machine right after reset (`spec/70_reset_and_hazards.md` rules R730 to R733). -/

namespace Sys2Proof.Machine

/-! ## CPU (R30 to R41) -/

/-- The four flags of F, bits 7..4 (R33). Bits 3..0 of F are hard-wired 0 and have no storage. -/
structure Flags where
  z : Bool
  n : Bool
  h : Bool
  c : Bool
deriving DecidableEq, Repr

/-- `cpu_mode` (R39). -/
inductive CpuMode where
  | running | halted | stopped
deriving DecidableEq, Repr

/-- The CPU: registers (R30 to R33), IME (R37), `ei_delay` (R38), `cpu_mode` (R39) and `halt_bug` (R40). -/
structure Cpu where
  a : Byte
  b : Byte
  c : Byte
  d : Byte
  e : Byte
  h : Byte
  l : Byte
  flags : Flags
  sp : Addr
  pc : Addr
  ime : Bool
  eiDelay : Fin 3
  mode : CpuMode
  haltBug : Bool
deriving DecidableEq, Repr

/-- The fault kinds of `60_exceptions.md` R601. -/
inductive FaultKind where
  | illegalOpcode | dmaBusConflict
deriving DecidableEq, Repr

/-- The fault record of R41. -/
structure FaultRecord where
  kind : FaultKind
  pc : Addr
  addr : Addr
  opcode : Byte
deriving DecidableEq, Repr

/-! ## Devices -/

/-- IE (all 8 bits, `60_exceptions.md` R611) and IF bits 4..0 (R610; its bits 7..5 read 1 and are not stored). -/
structure Irq where
  ie : Byte
  req : BitVec 5
deriving DecidableEq, Repr

/-- The timer (R46, R44): `counter` (DIV is its bits 15..8), `timer_signal`, TIMA, TMA and TAC bits 2..0. -/
structure Timer where
  counter : BitVec 16
  signal : Bool
  tima : Byte
  tma : Byte
  tac : BitVec 3
deriving DecidableEq, Repr

/-- The serial port (R44, R47): SB, SC bits 7 and 0, `serial_bits` and `serial_clock`. -/
structure Serial where
  sb : Byte
  transfer : Bool
  internalClock : Bool
  bits : Nat
  clock : Nat
deriving DecidableEq, Repr

/-- The eight joypad keys (R48). -/
inductive Key where
  | a | b | start | select | up | down | left | right
deriving DecidableEq, Repr

/-- Which keys are pressed (R48). -/
structure Keys where
  a : Bool
  b : Bool
  start : Bool
  select : Bool
  up : Bool
  down : Bool
  left : Bool
  right : Bool
deriving DecidableEq, Repr

/-- The joypad (R44, R48): the keys, P1 bits 5..4, and `p1_lines_prev`. -/
structure Joypad where
  keys : Keys
  sel : BitVec 2
  linesPrev : BitVec 4
deriving DecidableEq, Repr

/-- The PPU modes 0, 1, 2 and 3 (R49). -/
inductive PpuMode where
  | hBlank | vBlank | oamScan | drawing
deriving DecidableEq, Repr

/-- The PPU: its I/O registers (R44; of STAT only the selects, bits 6..3, are stored here, bit 2 is computed and bits
1..0 are `mode`) and its hidden state (R49). -/
structure Ppu where
  lcdc : Byte
  statSel : BitVec 4
  scy : Byte
  scx : Byte
  ly : Byte
  lyc : Byte
  bgp : Byte
  obp0 : Byte
  obp1 : Byte
  wy : Byte
  wx : Byte
  dot : Nat
  mode : PpuMode
  statLine : Bool
  windowLine : Byte
  frameReady : Bool
  line : List Shade
deriving DecidableEq, Repr

/-- OAM DMA (R50): `dma_reg` and `dma_remaining`. -/
structure Dma where
  reg : Byte
  remaining : Nat
deriving DecidableEq, Repr

/-! ## Cartridge (R51, R52) -/

/-- The closed enumeration of R51. -/
inductive CartStatus where
  | noRomLoaded | romFileNotReadable | romParseError | romTooBig | romSizeMismatch | romUnsupportedMbc
  | ramSizeUnsupported | loaded
deriving DecidableEq, Repr

/-- The parsed header record (`21_cartridge_mbc.md` R183). -/
structure Header where
  title : List Byte
  typeCode : Byte
  romCode : Byte
  ramCode : Byte
  destination : Byte
  headerChecksum : Byte
  globalChecksum : BitVec 16
deriving DecidableEq, Repr

/-- MBC1 registers (R52). -/
structure Mbc1 where
  ramEnable : Bool
  bank1 : BitVec 5
  bank2 : BitVec 2
  mode : Bool
deriving DecidableEq, Repr

/-- MBC2 registers (R52). -/
structure Mbc2 where
  ramEnable : Bool
  romBank : BitVec 4
deriving DecidableEq, Repr

/-- One set of RTC registers (`21_cartridge_mbc.md` R224); DH is its bits 0 (`day8`), 6 (`halt`) and 7 (`carry`). -/
structure Rtc where
  s : BitVec 6
  m : BitVec 6
  h : BitVec 5
  dl : Byte
  day8 : Bool
  halt : Bool
  carry : Bool
deriving DecidableEq, Repr

/-- MBC3 registers (R52, R224). -/
structure Mbc3 where
  ramEnable : Bool
  romBank : BitVec 7
  sel : BitVec 4
  latchPrev : Byte
  live : Rtc
  latched : Rtc
deriving DecidableEq, Repr

/-- MBC5 registers (R52). `motor` is the output of R230 (log entry 16). -/
structure Mbc5 where
  ramEnable : Bool
  romBank : BitVec 9
  ramBank : BitVec 4
  motor : Bool
deriving DecidableEq, Repr

/-- The MBC variant and its registers (R51, R52). -/
inductive Mbc where
  | romOnly
  | mbc1 (m : Mbc1)
  | mbc2 (m : Mbc2)
  | mbc3 (m : Mbc3)
  | mbc5 (m : Mbc5)
deriving DecidableEq, Repr

/-- The cartridge (R51, `21_cartridge_mbc.md` R183, R187, R189) but for its bytes, which stand in `State.mem`. -/
structure Cart where
  status : CartStatus
  header : Header
  romBanks : Nat
  ramSize : Nat
  battery : Bool
  rtc : Bool
  rumble : Bool
  mbc : Mbc
deriving DecidableEq, Repr

/-! ## Memory, display calls, the whole state -/

/-- Bytes by physical address (log entry 14): addresses strictly rising, and no entry equal to what an unlisted
address reads as (`Memory.wf`). -/
abbrev Memory := List Host.Cell

/-- A call to the display collaborator (`80_host_interface.md` R785). -/
inductive DisplayCall where
  | drawScanLine (line : Byte) (row : List Shade)
  | drawScreen
deriving DecidableEq, Repr

/-- The MODEL's own record of the latest step (log entries 10 and 21): its cost (`cycles` of R640), the address of the
opcode being executed (for the record of R601), whether the step wrote FF46 (R644), and its display calls, oldest
first. -/
structure StepInfo where
  cycles : Nat
  instPc : Addr
  dmaWritten : Bool
  calls : List DisplayCall
deriving DecidableEq, Repr

/-- The machine. `draws` is the MODEL's own: how many values of `Config.unmodelledRead` have been used. -/
structure State where
  cpu : Cpu
  irq : Irq
  timer : Timer
  serial : Serial
  joypad : Joypad
  ppu : Ppu
  dma : Dma
  cart : Cart
  mem : Memory
  fault : Option FaultRecord
  draws : Nat
  info : StepInfo
deriving DecidableEq, Repr

/-! ## Why a step can stop -/

/-- Why the machine stops with a fault. The spec's two faults (R601) are NOT here: they are state, a next state whose
`fault` is set (log entry 5). -/
inductive Fault where
  /-- Raised by the fetch of `step` if the decoder read no instruction from the bytes it fetched. No state leads here,
  since the fetch reads as many bytes as the opcode needs. Safe. -/
  | undecoded
deriving DecidableEq, Repr

/-- Why the machine refuses an instruction. -/
inductive Refusal where
  /-- Raised by an arm of `exec` whose instruction has no meaning yet. No arm does. Safe. -/
  | notModelled (mnemonic : String)
deriving DecidableEq, Repr

/-! ## Reset values -/

/-- R53. -/
def Cpu.reset : Cpu where
  a := 0x01
  b := 0x00
  c := 0x13
  d := 0x00
  e := 0xD8
  h := 0x01
  l := 0x4D
  flags := { z := true, n := false, h := true, c := true }
  sp := 0xFFFE
  pc := 0x0100
  ime := false
  eiDelay := 0
  mode := .running
  haltBug := false

/-- R44: IE 0x00, IF reads 0xE1. -/
def Irq.reset : Irq where
  ie := 0x00
  req := 0b00001

/-- R44, R46. -/
def Timer.reset : Timer where
  counter := 0xABCC
  signal := false
  tima := 0x00
  tma := 0x00
  tac := 0b000

/-- R44, R47. -/
def Serial.reset : Serial where
  sb := 0x00
  transfer := false
  internalClock := false
  bits := 0
  clock := 0

/-- All keys released (R48, R730). -/
def Keys.released : Keys where
  a := false
  b := false
  start := false
  select := false
  up := false
  down := false
  left := false
  right := false

/-- R44, R48. -/
def Joypad.reset : Joypad where
  keys := Keys.released
  sel := 0b00
  linesPrev := 0xF

/-- R44, R53. The line buffer's value is log entry 11. -/
def Ppu.reset : Ppu where
  lcdc := 0x91
  statSel := 0b0000
  scy := 0x00
  scx := 0x00
  ly := 0x00
  lyc := 0x00
  bgp := 0xFC
  obp0 := 0xFF
  obp1 := 0xFF
  wy := 0x00
  wx := 0x00
  dot := 0
  mode := .oamScan
  statLine := false
  windowLine := 0
  frameReady := false
  line := List.replicate 160 0

/-- R50. -/
def Dma.reset : Dma where
  reg := 0xFF
  remaining := 0

/-- No cartridge (R51, R190), under the given status. Its other fields are placeholders (log entry 9). -/
def Cart.absent (st : CartStatus) : Cart where
  status := st
  header := { title := [], typeCode := 0, romCode := 0, ramCode := 0, destination := 0, headerChecksum := 0,
              globalChecksum := 0 }
  romBanks := 0
  ramSize := 0
  battery := false
  rtc := false
  rumble := false
  mbc := .romOnly

/-- The record before any step (log entries 10 and 21). -/
def StepInfo.none : StepInfo where
  cycles := 0
  instPc := 0
  dmaWritten := false
  calls := []

/-- The engine right after construction (R730(a), R51), with the CPU and devices at the values a successful `loadGame`
leaves (R53, R731; log entry 1) and nothing listed in memory (log entry 3). -/
def State.reset : State where
  cpu := Cpu.reset
  irq := Irq.reset
  timer := Timer.reset
  serial := Serial.reset
  joypad := Joypad.reset
  ppu := Ppu.reset
  dma := Dma.reset
  cart := Cart.absent .noRomLoaded
  mem := []
  fault := none
  draws := 0
  info := StepInfo.none

end Sys2Proof.Machine
end

