-- ==== Sys2Proof/Machine/Memory.lean ====
section
/-! DEFINITION. The memory arrays of `spec/10_state.md` rules R42, R43 and R60 as one list in canonical form, keyed by
physical address (log entry 14). -/

namespace Sys2Proof.Machine

/-- What an unlisted byte reads as (log entry 3). -/
def Memory.unlisted : Byte := 0x00

/-- The byte at a physical address. -/
def Memory.read : Memory → Nat → Byte
  | [], _ => Memory.unlisted
  | (b, w) :: rest, a => if a = b then w else Memory.read rest a

/-- Write one byte and keep the canonical form: writing the unlisted value removes the entry. -/
def Memory.write : Memory → Nat → Byte → Memory
  | [], a, v => if v = Memory.unlisted then [] else [(a, v)]
  | (b, w) :: rest, a, v =>
    if a < b then (if v = Memory.unlisted then (b, w) :: rest else (a, v) :: (b, w) :: rest)
    else if a = b then (if v = Memory.unlisted then rest else (a, v) :: rest)
    else (b, w) :: Memory.write rest a v

/-- Every entry stands at `lo` or above, addresses rise strictly, and no entry holds the unlisted value. -/
def Memory.wfFrom : Nat → Memory → Bool
  | _, [] => true
  | lo, (b, w) :: rest => decide (lo ≤ b) && decide (w ≠ Memory.unlisted) && Memory.wfFrom (b + 1) rest

/-- The canonical form. -/
def Memory.wf (m : Memory) : Bool := Memory.wfFrom 0 m

/-! ## Physical addresses

The internal arrays stand at their bus addresses (R42): VRAM 0x8000, WRAM 0xC000, OAM 0xFE00, HRAM 0xFF80.
Cartridge RAM and the ROM image stand above the bus's 65536 addresses. -/

/-- Where cartridge RAM (or the MBC2 cells) begins: byte `i` of R60 is at `cartRamBase + i`. -/
def cartRamBase : Nat := 0x10000

/-- Where the ROM image begins: byte `i` of R43 is at `romBase + i`. -/
def romBase : Nat := 0x100000

/-- The byte of memory at a physical address. -/
def State.byteAt (p : Nat) (s : State) : Byte := s.mem.read p

/-- Write the byte of memory at a physical address. -/
def State.setByte (p : Nat) (v : Byte) (s : State) : State := { s with mem := s.mem.write p v }

end Sys2Proof.Machine
end

