-- ==== Sys2Proof/Machine/Cartridge.lean ====
section
/-! DEFINITION. The memory bank controllers and the real-time clock (`spec/21_cartridge_mbc.md` R200 to R231). -/

namespace Sys2Proof.Machine

/-! ## ROM windows -/

/-- `RomBank0()` (R205, R207, R209, R213, R231). -/
def Mbc.romBank0 : Mbc → Nat
  | .romOnly => 0
  | .mbc1 m => if m.mode then (m.bank2.toNat <<< 5) else 0
  | .mbc2 _ => 0
  | .mbc3 _ => 0
  | .mbc5 _ => 0

/-- `RomBankN()` (R205, R207, R209, R213, R231). -/
def Mbc.romBankN : Mbc → Nat
  | .romOnly => 1
  | .mbc1 m => (m.bank2.toNat <<< 5) ||| m.bank1.toNat
  | .mbc2 m => m.romBank.toNat
  | .mbc3 m => m.romBank.toNat
  | .mbc5 m => m.romBank.toNat

/-- The offset in the ROM image that `CartRomRead(a)` reads (R200), reduced modulo the banks present (R204). -/
def Cart.romOffset (c : Cart) (a : Addr) : Nat :=
  let bank := if a.toNat < 0x4000 then c.mbc.romBank0 else c.mbc.romBankN
  (bank % c.romBanks) * Config.romBankSize + a.toNat % Config.romBankSize

/-! ## Cartridge RAM window -/

/-- The RTC register that `ram_rtc_select` names (R224). -/
inductive RtcReg where
  | s | m | h | dl | dh
deriving DecidableEq, Repr

/-- What an access to A000-BFFF reaches. -/
inductive CartTarget where
  /-- Nothing: reads 0xFF, writes are ignored (R202, R203, R215). -/
  | closed
  /-- The byte of cartridge RAM at this physical address. -/
  | ram (p : Nat)
  /-- The MBC2 cell at this physical address (R210). -/
  | cell (p : Nat)
  /-- An RTC register (R215, R216). -/
  | rtc (r : RtcReg)
deriving DecidableEq, Repr

/-- R202: the byte of RAM bank `bank` at `a`, an offset modulo `ram_size`. -/
def Cart.ramTarget (c : Cart) (bank : Nat) (a : Addr) : CartTarget :=
  if c.ramSize = 0 then .closed
  else .ram (cartRamBase + (bank * Config.ramBankSize + (a.toNat - 0xA000)) % c.ramSize)

/-- R215: what `ram_rtc_select` 0x08..0x0C names. -/
def rtcRegOf (sel : BitVec 4) : Option RtcReg :=
  match sel.toNat with
  | 0x8 => some .s
  | 0x9 => some .m
  | 0xA => some .h
  | 0xB => some .dl
  | 0xC => some .dh
  | _ => none

/-- The target of an access to `a` in A000-BFFF: gate, bank and RTC selection of the variant (R202, R203, R205, R208,
R210, R215, R231). -/
def Cart.target (c : Cart) (a : Addr) : CartTarget :=
  match c.mbc with
  | .romOnly => c.ramTarget 0 a
  | .mbc1 m => if m.ramEnable then c.ramTarget (if m.mode then m.bank2.toNat else 0) a else .closed
  | .mbc2 m => if m.ramEnable then .cell (cartRamBase + a.toNat % 512) else .closed
  | .mbc3 m =>
    if m.ramEnable then
      if m.sel.toNat < 8 then c.ramTarget m.sel.toNat a
      else
        match rtcRegOf m.sel with
        | some r => if c.rtc then .rtc r else .closed
        | none => .closed
    else .closed
  | .mbc5 m => if m.ramEnable then c.ramTarget m.ramBank.toNat a else .closed

/-! ## The RTC (R224 to R226) -/

/-- A register of an RTC set as a byte, its unused bits 0 (R215). -/
def Rtc.get (t : Rtc) : RtcReg → Byte
  | .s => t.s.setWidth 8
  | .m => t.m.setWidth 8
  | .h => t.h.setWidth 8
  | .dl => t.dl
  | .dh => (if t.carry then 0x80 else 0) ||| (if t.halt then 0x40 else 0) ||| (if t.day8 then 0x01 else 0)

/-- A write of `v` masked by the register's width (R216, R224). -/
def Rtc.put (t : Rtc) (r : RtcReg) (v : Byte) : Rtc :=
  match r with
  | .s => { t with s := v.setWidth 6 }
  | .m => { t with m := v.setWidth 6 }
  | .h => { t with h := v.setWidth 5 }
  | .dl => { t with dl := v }
  | .dh => { t with day8 := v.getLsbD 0, halt := v.getLsbD 6, carry := v.getLsbD 7 }

/-- All registers 0 (R224, power-on). -/
def Rtc.zero : Rtc where
  s := 0
  m := 0
  h := 0
  dl := 0
  day8 := false
  halt := false
  carry := false

/-- The day counter `DH[0] : DL` (R226). -/
def Rtc.day (t : Rtc) : Nat := (if t.day8 then 256 else 0) + t.dl.toNat

/-- The day carry of R226. -/
def Rtc.tickDay (t : Rtc) : Rtc :=
  let day := if t.day = 511 then 0 else t.day + 1
  { t with dl := BitVec.ofNat 8 day, day8 := decide (256 ≤ day), carry := t.carry || t.day == 511 }

/-- The hour carry of R226: 23 wraps with a carry, 31 wraps without one. -/
def Rtc.tickHour (t : Rtc) : Rtc :=
  if t.h = 23 then ({ t with h := 0 } : Rtc).tickDay else { t with h := t.h + 1 }

/-- The minute carry of R226. -/
def Rtc.tickMinute (t : Rtc) : Rtc :=
  if t.m = 59 then ({ t with m := 0 } : Rtc).tickHour else { t with m := t.m + 1 }

/-- One elapsed second (R226); with DH bit 6 = 1 nothing changes. -/
def Rtc.tickSecond (t : Rtc) : Rtc :=
  if t.halt then t
  else if t.s = 59 then ({ t with s := 0 } : Rtc).tickMinute
  else { t with s := t.s + 1 }

/-! ## Register writes -/

/-- `(v & 0x0F) == 0x0A`: the RAM enable value of MBC1, MBC2, MBC3 and MBC5. -/
def ramEnableValue (v : Byte) : Bool := v &&& 0x0F == 0x0A

/-- MBC1 (R206): the zero test is on the 5-bit value. -/
def Mbc1.write (m : Mbc1) (a : Addr) (v : Byte) : Mbc1 :=
  if a.toNat < 0x2000 then { m with ramEnable := ramEnableValue v }
  else if a.toNat < 0x4000 then { m with bank1 := if v.setWidth 5 = 0 then 1 else v.setWidth 5 }
  else if a.toNat < 0x6000 then { m with bank2 := v.setWidth 2 }
  else { m with mode := v.getLsbD 0 }

/-- MBC2 (R209): bit 8 of the address chooses; 4000-7FFF is ignored. -/
def Mbc2.write (m : Mbc2) (a : Addr) (v : Byte) : Mbc2 :=
  if a.toNat < 0x4000 then
    if a.getLsbD 8 then { m with romBank := if v.setWidth 4 = 0 then 1 else v.setWidth 4 }
    else { m with ramEnable := ramEnableValue v }
  else m

/-- MBC3 (R211 to R214). `rtc`: the cartridge has an RTC; without one the latch write only sets `latch_prev`. -/
def Mbc3.write (m : Mbc3) (rtc : Bool) (a : Addr) (v : Byte) : Mbc3 :=
  if a.toNat < 0x2000 then { m with ramEnable := ramEnableValue v }
  else if a.toNat < 0x4000 then { m with romBank := if v.setWidth 7 = 0 then 1 else v.setWidth 7 }
  else if a.toNat < 0x6000 then { m with sel := v.setWidth 4 }
  else
    { m with
      latched := if rtc && m.latchPrev == 0x00 && v == 0x01 then m.live else m.latched
      latchPrev := v }

/-- MBC5 (R230). `rumble`: bit 3 of a RAM bank write drives the motor and is not part of the bank. -/
def Mbc5.write (m : Mbc5) (rumble : Bool) (a : Addr) (v : Byte) : Mbc5 :=
  if a.toNat < 0x2000 then { m with ramEnable := ramEnableValue v }
  else if a.toNat < 0x3000 then { m with romBank := m.romBank.extractLsb' 8 1 ++ v }
  else if a.toNat < 0x4000 then { m with romBank := v.extractLsb' 0 1 ++ m.romBank.extractLsb' 0 8 }
  else if a.toNat < 0x6000 then
    if rumble then { m with ramBank := (v &&& 0x07).setWidth 4, motor := v.getLsbD 3 }
    else { m with ramBank := v.setWidth 4 }
  else m

/-- `MbcWrite(a, v)` for `a` in 0000-7FFF (R201). -/
def Cart.mbcWrite (c : Cart) (a : Addr) (v : Byte) : Cart :=
  { c with
    mbc :=
      match c.mbc with
      | .romOnly => .romOnly
      | .mbc1 m => .mbc1 (m.write a v)
      | .mbc2 m => .mbc2 (m.write a v)
      | .mbc3 m => .mbc3 (m.write c.rtc a v)
      | .mbc5 m => .mbc5 (m.write c.rumble a v) }

/-- The latched register a read of A000-BFFF returns (R215). -/
def Cart.rtcRead (c : Cart) (r : RtcReg) : Byte :=
  match c.mbc with
  | .mbc3 m => m.latched.get r
  | _ => 0xFF

/-- A write to a live RTC register (R216); the latched copy is unchanged. -/
def Cart.rtcWrite (c : Cart) (r : RtcReg) (v : Byte) : Cart :=
  { c with
    mbc :=
      match c.mbc with
      | .mbc3 m => .mbc3 { m with live := m.live.put r v }
      | other => other }

/-- `RtcSecond` (R226, `80_host_interface.md` R786): nothing on a cartridge without an RTC. -/
def Cart.rtcSecond (c : Cart) : Cart :=
  { c with
    mbc :=
      match c.mbc with
      | .mbc3 m => .mbc3 { m with live := if c.rtc && c.status == .loaded then m.live.tickSecond else m.live }
      | other => other }

/-! ## Accesses to the two windows -/

/-- `CartRomRead(a)` (R200). -/
def State.cartRomRead (s : State) (a : Addr) : Byte := s.byteAt (romBase + s.cart.romOffset a)

/-- `CartRamRead(a)` (R202, R210, R215). -/
def State.cartRamRead (s : State) (a : Addr) : Byte :=
  match s.cart.target a with
  | .closed => 0xFF
  | .ram p => s.byteAt p
  | .cell p => 0xF0 ||| (s.byteAt p &&& 0x0F)
  | .rtc r => s.cart.rtcRead r

/-- `CartRamWrite(a, v)` (R203, R210, R216). -/
def State.cartRamWrite (s : State) (a : Addr) (v : Byte) : State :=
  match s.cart.target a with
  | .closed => s
  | .ram p => s.setByte p v
  | .cell p => s.setByte p (v &&& 0x0F)
  | .rtc r => { s with cart := s.cart.rtcWrite r v }

end Sys2Proof.Machine
end

