-- ==== Sys2Proof/Machine/Ppu.lean ====
section
/-! DEFINITION. The PPU: line rendering, the dot procedure, STAT and LCDC (`spec/62_ppu.md`). -/

namespace Sys2Proof.Machine

/-! ## Registers and modes -/

/-- LCDC bit 7 (R661). -/
def Ppu.lcdOn (p : Ppu) : Bool := p.lcdc.getLsbD 7

/-- The number of a mode (R49). -/
def PpuMode.num : PpuMode → Nat
  | .hBlank => 0
  | .vBlank => 1
  | .oamScan => 2
  | .drawing => 3

/-- `ModeOf(LY, dot)` (R665). -/
def modeOf (ly : Byte) (dot : Nat) : PpuMode :=
  if 144 ≤ ly.toNat then .vBlank
  else if dot < 80 then .oamScan
  else if dot < 252 then .drawing
  else .hBlank

/-- The current line as LY reads: 0 while the LCD is off (R664). -/
def Ppu.lyRead (p : Ppu) : Byte := if p.lcdOn then p.ly else 0

/-- STAT as it reads (R662): bit 7 reads 1, the selects, `LY == LYC`, the mode (0 while the LCD is off). -/
def Ppu.statRead (p : Ppu) : Byte :=
  0x80 ||| (p.statSel.setWidth 8 <<< 3) ||| (if p.lyRead = p.lyc then 0x04 else 0)
    ||| BitVec.ofNat 8 (if p.lcdOn then p.mode.num else 0)

/-- VRAM is closed to the CPU (`20_memory.md` R110). -/
def Ppu.vramBlocked (p : Ppu) : Bool := p.lcdOn && decide (p.mode = .drawing)

/-- OAM is closed to the CPU (R111). -/
def Ppu.oamBlocked (p : Ppu) : Bool := p.lcdOn && (decide (p.mode = .oamScan) || decide (p.mode = .drawing))

/-- A CPU write to LCDC (R661, R670, R671). -/
def Ppu.writeLcdc (p : Ppu) (v : Byte) : Ppu :=
  if p.lcdOn && !v.getLsbD 7 then { p with lcdc := v, ly := 0, dot := 0, mode := .hBlank, statLine := false }
  else if !p.lcdOn && v.getLsbD 7 then { p with lcdc := v, ly := 0, dot := 0, mode := .oamScan, windowLine := 0 }
  else { p with lcdc := v }

/-! ## Tiles (R680) -/

/-- The colour number of row `row`, column `col` of the tile whose bytes begin at the VRAM address `t`. -/
def tileColour (m : Memory) (t row col : Nat) : Shade :=
  let lo := m.read (t + 2 * row)
  let hi := m.read (t + 2 * row + 1)
  BitVec.ofBool (hi.getLsbD (7 - col)) ++ BitVec.ofBool (lo.getLsbD (7 - col))

/-- The address of BG and window tile `t`, by LCDC bit 4. -/
def Ppu.bgTileAddr (p : Ppu) (t : Byte) : Nat :=
  if p.lcdc.getLsbD 4 then 0x8000 + 16 * t.toNat else (0x9000 + 16 * t.toInt).toNat

/-- `shade(P, c)` (R688). -/
def paletteShade (pal : Byte) (c : Shade) : Shade := (pal >>> (2 * c.toNat)).setWidth 2

/-! ## Background and window (R681 to R684) -/

/-- The background's colour number at screen column `x` (R681). -/
def State.bgColour (s : State) (x : Nat) : Shade :=
  let p := s.ppu
  let bY := (p.ly.toNat + p.scy.toNat) % 256
  let bX := (x + p.scx.toNat) % 256
  let map := if p.lcdc.getLsbD 3 then 0x9C00 else 0x9800
  let t := s.mem.read (map + bY / 8 * 32 + bX / 8)
  tileColour s.mem (p.bgTileAddr t) (bY % 8) (bX % 8)

/-- The window is drawn on the current line (R682). -/
def Ppu.windowDrawn (p : Ppu) : Bool :=
  p.lcdc.getLsbD 5 && p.lcdc.getLsbD 0 && decide (p.wy.toNat ≤ p.ly.toNat) && decide (p.wx.toNat ≤ 166)

/-- The window covers screen column `x` (R682). -/
def Ppu.windowCovers (p : Ppu) (x : Nat) : Bool := p.windowDrawn && decide (p.wx.toNat ≤ x + 7)

/-- The window's colour number at a covered column `x` (R684). -/
def State.windowColour (s : State) (x : Nat) : Shade :=
  let p := s.ppu
  let wX := x + 7 - p.wx.toNat
  let wY := p.windowLine.toNat
  let map := if p.lcdc.getLsbD 6 then 0x9C00 else 0x9800
  let t := s.mem.read (map + wY / 8 * 32 + wX / 8)
  tileColour s.mem (p.bgTileAddr t) (wY % 8) (wX % 8)

/-! ## Sprites (R675, R685 to R687) -/

/-- The four bytes of an OAM entry (R685). -/
structure Sprite where
  y : Byte
  x : Byte
  tile : Byte
  attr : Byte
deriving DecidableEq, Repr

/-- OAM entry `i`. -/
def oamEntry (m : Memory) (i : Nat) : Sprite where
  y := m.read (0xFE00 + 4 * i)
  x := m.read (0xFE00 + 4 * i + 1)
  tile := m.read (0xFE00 + 4 * i + 2)
  attr := m.read (0xFE00 + 4 * i + 3)

/-- The height of a sprite, by LCDC bit 2. -/
def Ppu.spriteHeight (p : Ppu) : Nat := if p.lcdc.getLsbD 2 then 16 else 8

/-- R675: the sprite's rows take in line LY. -/
def Ppu.onLine (p : Ppu) (sp : Sprite) : Bool :=
  decide (sp.y.toNat ≤ p.ly.toNat + 16) && decide (p.ly.toNat + 16 < sp.y.toNat + p.spriteHeight)

/-- R675: the first 10 entries on the line, in OAM order. -/
def State.lineSprites (s : State) : List Sprite :=
  (((List.range 40).map (oamEntry s.mem)).filter s.ppu.onLine).take 10

/-- R686: the sprite covers column `x`. -/
def Sprite.covers (sp : Sprite) (x : Nat) : Bool := decide (sp.x.toNat ≤ x + 8) && decide (x < sp.x.toNat)

/-- R686: the sprite's colour number at a covered column `x` of the current line. -/
def State.spriteColour (s : State) (sp : Sprite) (x : Nat) : Shade :=
  let h := s.ppu.spriteHeight
  let row0 := s.ppu.ly.toNat + 16 - sp.y.toNat
  let row := if sp.attr.getLsbD 6 then h - 1 - row0 else row0
  let col0 := x + 8 - sp.x.toNat
  let col := if sp.attr.getLsbD 5 then 7 - col0 else col0
  let tile := if s.ppu.lcdc.getLsbD 2 then sp.tile &&& 0xFE else sp.tile
  tileColour s.mem (0x8000 + 16 * tile.toNat) row col

/-- R687: of two sprites, the earlier of which is `best` in OAM order, the one with the smaller X. -/
def betterSprite (best : Option Sprite) (sp : Sprite) : Option Sprite :=
  match best with
  | none => some sp
  | some b => if sp.x.toNat < b.x.toNat then some sp else some b

/-- R687: the winning sprite at column `x` among `sprites`, which stand in OAM order. -/
def State.winner (s : State) (sprites : List Sprite) (x : Nat) : Option Sprite :=
  (sprites.filter fun sp => sp.covers x && s.spriteColour sp x != 0).foldl betterSprite none

/-! ## Composition and output (R688 to R692) -/

/-- The shade of pixel `x`, given the line's selected sprites (R689, R691). -/
def State.pixel (s : State) (sprites : List Sprite) (x : Nat) : Shade :=
  let p := s.ppu
  let bgOn := p.lcdc.getLsbD 0
  let bgc : Shade := if bgOn then (if p.windowCovers x then s.windowColour x else s.bgColour x) else 0
  let backdrop : Shade := if bgOn then paletteShade p.bgp bgc else 0
  match (if p.lcdc.getLsbD 1 then s.winner sprites x else none) with
  | some sp =>
    if !sp.attr.getLsbD 7 || bgc == 0 then
      paletteShade (if sp.attr.getLsbD 4 then p.obp1 else p.obp0) (s.spriteColour sp x)
    else backdrop
  | none => backdrop

/-- `out[0..159]` of R690. -/
def State.lineShades (s : State) : List Shade := (List.range Config.lineWidth).map (s.pixel s.lineSprites)

/-- Record a call to the display collaborator (R785; log entry 10). -/
def State.call (s : State) (c : DisplayCall) : State := { s with info := { s.info with calls := s.info.calls ++ [c] } }

/-- `RenderLine(LY)` (R690, R692), and the window line counter after it (R683). -/
def State.renderLine (s : State) : State :=
  let out := s.lineShades
  let s1 := s.call (.drawScanLine s.ppu.ly out)
  { s1 with
    ppu := { s1.ppu with
      line := out
      windowLine := if s1.ppu.windowDrawn then s1.ppu.windowLine + 1 else s1.ppu.windowLine } }

/-! ## The dot procedure (R666 to R669, R672) -/

/-- Set request bit `i` of IF (`60_exceptions.md` R610). -/
def State.request (s : State) (i : Nat) : State :=
  { s with irq := { s.irq with req := s.irq.req ||| (1 : BitVec 5) <<< i } }

/-- R666, the dot counter reaching 456: the next line, the window line counter at line 0, V-blank at line 144 (R669,
R672). -/
def State.nextLine (s : State) : State :=
  let ly : Byte := BitVec.ofNat 8 ((s.ppu.ly.toNat + 1) % Config.frameLines)
  let s1 : State :=
    { s with ppu := { s.ppu with
      dot := 0
      ly := ly
      windowLine := if ly = 0 then 0 else s.ppu.windowLine
      frameReady := if ly = 144 then true else s.ppu.frameReady } }
  if ly = 144 then (s1.request 0).call .drawScreen else s1

/-- The combined STAT condition (R668). -/
def Ppu.statCondition (p : Ppu) : Bool :=
  (p.statSel.getLsbD 3 && p.ly == p.lyc) || (p.statSel.getLsbD 2 && decide (p.mode = .oamScan))
    || (p.statSel.getLsbD 1 && decide (p.mode = .vBlank)) || (p.statSel.getLsbD 0 && decide (p.mode = .hBlank))

/-- `StatLineUpdate()` (R668): a request on the rising edge. -/
def State.statLineUpdate (s : State) : State :=
  let line := s.ppu.statCondition
  let s1 := if line && !s.ppu.statLine then s.request 1 else s
  { s1 with ppu := { s1.ppu with statLine := line } }

/-- `PpuDot()` (R666), nothing while the LCD is off (R660). -/
def State.ppuDot (s : State) : State :=
  if s.ppu.lcdOn then
    let s1 : State :=
      if s.ppu.dot + 1 = Config.lineDots then s.nextLine else { s with ppu := { s.ppu with dot := s.ppu.dot + 1 } }
    let m := modeOf s1.ppu.ly s1.ppu.dot
    let s2 := if m = .drawing ∧ s1.ppu.mode ≠ .drawing then s1.renderLine else s1
    ({ s2 with ppu := { s2.ppu with mode := m } } : State).statLineUpdate
  else s

end Sys2Proof.Machine
end

