-- ==== Sys2Proof/Machine/Devices.lean ====
section
/-! DEFINITION. The timer, the serial port, the joypad, the DMA countdown and their advance by T-cycles
(`spec/60_exceptions.md` R620 to R631, R644). -/

namespace Sys2Proof.Machine

/-! ## Divider and timer -/

/-- The counter bit that TAC bits 1..0 select (R621). -/
def tacBit (tac : BitVec 3) : Nat :=
  match (tac.extractLsb' 0 2).toNat with
  | 0 => 9
  | 1 => 3
  | 2 => 5
  | _ => 7

/-- `sig()` (R622). -/
def Timer.sig (t : Timer) : Bool := t.tac.getLsbD 2 && t.counter.getLsbD (tacBit t.tac)

/-- `TimaIncrement()` (R623): reload and request on overflow, in the same T-cycle. -/
def State.timaIncrement (s : State) : State :=
  if s.timer.tima = 0xFF then ({ s with timer := { s.timer with tima := s.timer.tma } } : State).request 2
  else { s with timer := { s.timer with tima := s.timer.tima + 1 } }

/-- The falling-edge detector (R622, R624), run after the counter or TAC has changed. -/
def State.timerEdge (s : State) : State :=
  let sg := s.timer.sig
  let s1 := if s.timer.signal && !sg then s.timaIncrement else s
  { s1 with timer := { s1.timer with signal := sg } }

/-- One T-cycle of the timer (R620, R622). -/
def State.timerTick (s : State) : State :=
  ({ s with timer := { s.timer with counter := s.timer.counter + 1 } } : State).timerEdge

/-- The counter cleared, by a write to DIV (R620) or by `STOP` (`45_system.md` R510), and the edge it causes (R624). -/
def State.clearCounter (s : State) : State := ({ s with timer := { s.timer with counter := 0 } } : State).timerEdge

/-- A write to TAC (R621) and the edge it causes (R624). -/
def State.writeTac (s : State) (v : Byte) : State :=
  ({ s with timer := { s.timer with tac := v.setWidth 3 } } : State).timerEdge

/-! ## Serial port -/

/-- A write to SC (R627): with bits 7 and 0 both 1 it starts a transfer. -/
def Serial.writeSc (p : Serial) (v : Byte) : Serial :=
  let p1 := { p with transfer := v.getLsbD 7, internalClock := v.getLsbD 0 }
  if v.getLsbD 7 && v.getLsbD 0 then { p1 with bits := 0, clock := 0 } else p1

/-- SC as it reads: bits 6..1 read 1. -/
def Serial.scRead (p : Serial) : Byte := 0x7E ||| (bit0 p.transfer <<< 7) ||| bit0 p.internalClock

/-- One T-cycle of the serial port (R628). With no partner the incoming bit is 1. -/
def State.serialTick (s : State) : State :=
  let p := s.serial
  if p.transfer && p.internalClock then
    if p.clock + 1 = 512 then
      if p.bits + 1 = 8 then
        ({ s with serial := { p with clock := 0, sb := p.sb <<< 1 ||| 1, bits := 0, transfer := false } } : State).request 3
      else { s with serial := { p with clock := 0, sb := p.sb <<< 1 ||| 1, bits := p.bits + 1 } }
    else { s with serial := { p with clock := p.clock + 1 } }
  else s

/-! ## Joypad -/

/-- P1 bits 3..0 (R630): a line is 0 when a pressed key of a selected group drives it. -/
def Joypad.lines (j : Joypad) : BitVec 4 :=
  let k := j.keys
  let dir := !j.sel.getLsbD 0
  let act := !j.sel.getLsbD 1
  let pull (x y : Bool) : BitVec 1 := BitVec.ofBool (!((dir && x) || (act && y)))
  pull k.down k.start ++ pull k.up k.select ++ pull k.left k.b ++ pull k.right k.a

/-- P1 as it reads (R630). -/
def Joypad.p1Read (j : Joypad) : Byte := 0xC0 ||| (j.sel.setWidth 8 <<< 4) ||| j.lines.setWidth 8

/-- `JoypadSample()` (R631): a request when some line went from 1 to 0. -/
def State.joypadSample (s : State) : State :=
  let l := s.joypad.lines
  let s1 := if s.joypad.linesPrev &&& ~~~l ≠ 0 then s.request 4 else s
  { s1 with joypad := { s1.joypad with linesPrev := l } }

/-! ## The advance -/

/-- One T-cycle of the DMA countdown (R644), skipped in the step that wrote FF46 (`20_memory.md` R130). -/
def State.dmaTick (s : State) : State :=
  if s.info.dmaWritten then s else { s with dma := { s.dma with remaining := s.dma.remaining - 1 } }

/-- One T-cycle of every device, in the order of R644. -/
def State.deviceTick (s : State) : State := s.timerTick.serialTick.dmaTick.ppuDot

/-- `AdvanceDevices(n)` (R644). -/
def advanceDevices : Nat → State → State
  | 0, s => s
  | n + 1, s => advanceDevices n s.deviceTick

end Sys2Proof.Machine
end

