-- ==== Sys2Proof/Machine/Bus.lean ====
section
/-! DEFINITION. The routing of bus accesses (`spec/20_memory.md`): `MemRead`, `MemWrite` and OAM DMA. -/

namespace Sys2Proof.Machine

/-! ## Regions and I/O registers -/

/-- The regions of R101. -/
inductive Region where
  | rom | vram | cartRam | wram | echo | oam | unusable | io | hram | ie
deriving DecidableEq, Repr

/-- The region an address selects (R101). -/
def regionOf (a : Addr) : Region :=
  let n := a.toNat
  if n < 0x8000 then .rom
  else if n < 0xA000 then .vram
  else if n < 0xC000 then .cartRam
  else if n < 0xE000 then .wram
  else if n < 0xFE00 then .echo
  else if n < 0xFEA0 then .oam
  else if n < 0xFF00 then .unusable
  else if n < 0xFF80 then .io
  else if n < 0xFFFF then .hram
  else .ie

/-- The I/O registers of `10_state.md` R44, the audio range of R118, and every other address of FF00-FF7F (R117). -/
inductive IoReg where
  | p1 | sb | sc | div | tima | tma | tac | iflag | audio | lcdc | stat | scy | scx | ly | lyc | dma | bgp | obp0 | obp1
  | wy | wx | unmapped
deriving DecidableEq, Repr

/-- The I/O register at an address of FF00-FF7F. -/
def ioRegOf (a : Addr) : IoReg :=
  if a = 0xFF00 then .p1
  else if a = 0xFF01 then .sb
  else if a = 0xFF02 then .sc
  else if a = 0xFF04 then .div
  else if a = 0xFF05 then .tima
  else if a = 0xFF06 then .tma
  else if a = 0xFF07 then .tac
  else if a = 0xFF0F then .iflag
  else if 0xFF10 ≤ a.toNat ∧ a.toNat ≤ 0xFF3F then .audio
  else if a = 0xFF40 then .lcdc
  else if a = 0xFF41 then .stat
  else if a = 0xFF42 then .scy
  else if a = 0xFF43 then .scx
  else if a = 0xFF44 then .ly
  else if a = 0xFF45 then .lyc
  else if a = 0xFF46 then .dma
  else if a = 0xFF47 then .bgp
  else if a = 0xFF48 then .obp0
  else if a = 0xFF49 then .obp1
  else if a = 0xFF4A then .wy
  else if a = 0xFF4B then .wx
  else .unmapped

/-! ## Reads -/

/-- `draw()` (`00_scope.md` R9): a fresh value of UNMODELLED_READ (log entry 4). -/
def State.draw (s : State) : Byte × State := (Config.unmodelledRead s.draws, { s with draws := s.draws + 1 })

/-- A read of an I/O register (`10_state.md` R45 and the register's behaviour rule; R117, R118). -/
def State.ioRead (s : State) (r : IoReg) : Byte × State :=
  match r with
  | .p1 => (s.joypad.p1Read, s)
  | .sb => (s.serial.sb, s)
  | .sc => (s.serial.scRead, s)
  | .div => (hiByte s.timer.counter, s)
  | .tima => (s.timer.tima, s)
  | .tma => (s.timer.tma, s)
  | .tac => (0xF8 ||| s.timer.tac.setWidth 8, s)
  | .iflag => (0xE0 ||| s.irq.req.setWidth 8, s)
  | .audio => s.draw
  | .lcdc => (s.ppu.lcdc, s)
  | .stat => (s.ppu.statRead, s)
  | .scy => (s.ppu.scy, s)
  | .scx => (s.ppu.scx, s)
  | .ly => (s.ppu.lyRead, s)
  | .lyc => (s.ppu.lyc, s)
  | .dma => (s.dma.reg, s)
  | .bgp => (s.ppu.bgp, s)
  | .obp0 => (s.ppu.obp0, s)
  | .obp1 => (s.ppu.obp1, s)
  | .wy => (s.ppu.wy, s)
  | .wx => (s.ppu.wx, s)
  | .unmapped => (0xFF, s)

/-- A read through the table of R101, outside OAM DMA. -/
def State.busRead (s : State) (a : Addr) : Byte × State :=
  match regionOf a with
  | .rom => (s.cartRomRead a, s)
  | .vram => (if s.ppu.vramBlocked then 0xFF else s.byteAt a.toNat, s)
  | .cartRam => (s.cartRamRead a, s)
  | .wram => (s.byteAt a.toNat, s)
  | .echo => (s.byteAt (a.toNat - 0x2000), s)
  | .oam => (if s.ppu.oamBlocked then 0xFF else s.byteAt a.toNat, s)
  | .unusable => s.draw
  | .io => s.ioRead (ioRegOf a)
  | .hram => (s.byteAt a.toNat, s)
  | .ie => (s.irq.ie, s)

/-- The bus below FF00 is taken by an OAM DMA transfer (R119 to R121). -/
def State.dmaHolds (s : State) (a : Addr) : Bool := decide (0 < s.dma.remaining) && decide (a.toNat < 0xFF00)

/-- `MemRead(a, 1)`, for data and for fetches (R101, R119, R121): the byte, and the state after it (a draw counts). -/
def State.memRead (s : State) (a : Addr) : Byte × State := if s.dmaHolds a then s.draw else s.busRead a

/-! ## OAM DMA -/

/-- `DmaSourceRead(s)` for a source address below E000 (R131): R101 without the restrictions of R110 and R119. -/
def State.dmaSourceLow (s : State) (a : Addr) : Byte :=
  match regionOf a with
  | .rom => s.cartRomRead a
  | .cartRam => s.cartRamRead a
  | _ => s.byteAt a.toNat

/-- `DmaSourceRead(s)` (R131): `s - 0x2000` when `s >= 0xE000`. -/
def State.dmaSource (s : State) (a : Addr) : Byte := s.dmaSourceLow (if 0xE000 ≤ a.toNat then a - 0x2000 else a)

/-- The copy of R131, bytes `i` to `i + n - 1`. -/
def dmaCopy (page : Byte) : Nat → Nat → State → State
  | _, 0, s => s
  | i, n + 1, s => dmaCopy page (i + 1) n (s.setByte (0xFE00 + i) (s.dmaSource (word16 page (BitVec.ofNat 8 i))))

/-- A write of `v` to FF46 (R130). -/
def State.startDma (s : State) (v : Byte) : State :=
  let s1 := dmaCopy v 0 160 s
  { s1 with dma := { reg := v, remaining := Config.dmaCycles }, info := { s1.info with dmaWritten := true } }

/-! ## Writes -/

/-- A write to an I/O register (`10_state.md` R45 and the register's behaviour rule; R117, R118). -/
def State.ioWrite (s : State) (r : IoReg) (v : Byte) : State :=
  match r with
  | .p1 => { s with joypad := { s.joypad with sel := v.extractLsb' 4 2 } }
  | .sb => { s with serial := { s.serial with sb := v } }
  | .sc => { s with serial := s.serial.writeSc v }
  | .div => s.clearCounter
  | .tima => { s with timer := { s.timer with tima := v } }
  | .tma => { s with timer := { s.timer with tma := v } }
  | .tac => s.writeTac v
  | .iflag => { s with irq := { s.irq with req := v.setWidth 5 } }
  | .audio => s
  | .lcdc => { s with ppu := s.ppu.writeLcdc v }
  | .stat => { s with ppu := { s.ppu with statSel := v.extractLsb' 3 4 } }
  | .scy => { s with ppu := { s.ppu with scy := v } }
  | .scx => { s with ppu := { s.ppu with scx := v } }
  | .ly => s
  | .lyc => { s with ppu := { s.ppu with lyc := v } }
  | .dma => s.startDma v
  | .bgp => { s with ppu := { s.ppu with bgp := v } }
  | .obp0 => { s with ppu := { s.ppu with obp0 := v } }
  | .obp1 => { s with ppu := { s.ppu with obp1 := v } }
  | .wy => { s with ppu := { s.ppu with wy := v } }
  | .wx => { s with ppu := { s.ppu with wx := v } }
  | .unmapped => s

/-- A write through the table of R101. -/
def State.busWrite (s : State) (a : Addr) (v : Byte) : State :=
  match regionOf a with
  | .rom => { s with cart := s.cart.mbcWrite a v }
  | .vram => if s.ppu.vramBlocked then s else s.setByte a.toNat v
  | .cartRam => s.cartRamWrite a v
  | .wram => s.setByte a.toNat v
  | .echo => s.setByte (a.toNat - 0x2000) v
  | .oam => if s.ppu.oamBlocked then s else s.setByte a.toNat v
  | .unusable => s
  | .io => s.ioWrite (ioRegOf a) v
  | .hram => s.setByte a.toNat v
  | .ie => { s with irq := { s.irq with ie := v } }

/-- The physical address of the one byte of memory that a CPU write to `a` stores to, if it stores to memory: the
address `busWrite` computes. A write to FF46 stores to OAM besides (R131), which this does not name. -/
def State.storeAddr (s : State) (a : Addr) : Option Nat :=
  match regionOf a with
  | .vram => if s.ppu.vramBlocked then none else some a.toNat
  | .cartRam =>
    match s.cart.target a with
    | .ram p => some p
    | .cell p => some p
    | _ => none
  | .wram => some a.toNat
  | .echo => some (a.toNat - 0x2000)
  | .oam => if s.ppu.oamBlocked then none else some a.toNat
  | .hram => some a.toNat
  | _ => none

/-- The byte that a CPU write of `v` to `a` leaves in the byte of memory it stores to: `v`, or its low four bits in an
MBC2 cell (R210). -/
def State.storedByte (s : State) (a : Addr) (v : Byte) : Byte :=
  match regionOf a with
  | .cartRam =>
    match s.cart.target a with
    | .cell _ => v &&& 0x0F
    | _ => v
  | _ => v

/-- What `raise Fault(kind)` carries out of an access: the record, and how many draws the step has made. -/
structure FaultRaised where
  record : FaultRecord
  draws : Nat
deriving DecidableEq, Repr

/-- `MemWrite(a, 1, v)` by an instruction whose opcode byte is `op` (R101, R120, `60_exceptions.md` R601). -/
def State.memWrite (s : State) (op : Byte) (a : Addr) (v : Byte) : Except FaultRaised State :=
  if s.dmaHolds a then
    .error { record := { kind := .dmaBusConflict, pc := s.info.instPc, addr := a, opcode := op }, draws := s.draws }
  else .ok (s.busWrite a v)

end Sys2Proof.Machine
end

