-- ==== Sys2Proof/Machine/Flags.lean ====
section
/-! DEFINITION. The flag register and every arithmetic, logic, rotate and bit computation with its flags
(`spec/10_state.md` R33 to R35, `41_alu8.md`, `42_alu16.md`, `43_rotate_shift_bit.md`). Sums and differences are
computed over the integers and then reduced (R351). -/

namespace Sys2Proof.Machine

/-- F as a byte (R33): Z, N, H, C in bits 7..4, bits 3..0 read 0. -/
def Flags.toByte (f : Flags) : Byte :=
  bit0 f.z <<< 7 ||| bit0 f.n <<< 6 ||| bit0 f.h <<< 5 ||| bit0 f.c <<< 4

/-- A write of `v` to F (R33): bits 3..0 are discarded. -/
def Flags.ofByte (v : Byte) : Flags where
  z := v.getLsbD 7
  n := v.getLsbD 6
  h := v.getLsbD 5
  c := v.getLsbD 4

/-- The test of a condition code (R35). -/
def Flags.cond (f : Flags) : Cond → Bool
  | .nz => !f.z
  | .z => f.z
  | .nc => !f.c
  | .c => f.c

/-- An 8-bit result with the flags after it. -/
structure AluResult where
  value : Byte
  flags : Flags
deriving DecidableEq, Repr

/-- `add8` of R351. -/
def add8 (a b : Byte) (cin : Bool) : AluResult :=
  let t := a.toNat + b.toNat + cin.toNat
  let res := BitVec.ofNat 8 t
  { value := res
    flags := { z := res == 0
               n := false
               h := decide ((a &&& 0x0F).toNat + (b &&& 0x0F).toNat + cin.toNat > 0x0F)
               c := decide (t > 0xFF) } }

/-- `sub8` of R351. -/
def sub8 (a b : Byte) (cin : Bool) : AluResult :=
  let t : Int := (a.toNat : Int) - (b.toNat : Int) - (cin.toNat : Int)
  let res := BitVec.ofInt 8 t
  { value := res
    flags := { z := res == 0
               n := true
               h := decide (((a &&& 0x0F).toNat : Int) - ((b &&& 0x0F).toNat : Int) - (cin.toNat : Int) < 0)
               c := decide (t < 0) } }

/-- `AND`, `XOR` and `OR`: Z from the result, N = 0, C = 0, H as given (R364, R367, R370). -/
def logic8 (res : Byte) (h : Bool) : AluResult :=
  { value := res, flags := { z := res == 0, n := false, h := h, c := false } }

/-- The eight operations on A and a source byte (R352 to R375), under the flags before. `CP` leaves A as it is. -/
def alu8 (op : AluOp) (a v : Byte) (f : Flags) : AluResult :=
  match op with
  | .add => add8 a v false
  | .adc => add8 a v f.c
  | .sub => sub8 a v false
  | .sbc => sub8 a v f.c
  | .and => logic8 (a &&& v) true
  | .xor => logic8 (a ^^^ v) false
  | .or => logic8 (a ||| v) false
  | .cp => { value := a, flags := (sub8 a v false).flags }

/-- `INC` on 8 bits (R376): C unchanged. -/
def inc8 (v : Byte) (f : Flags) : AluResult :=
  { value := v + 1, flags := { z := v + 1 == 0, n := false, h := v &&& 0x0F == 0x0F, c := f.c } }

/-- `DEC` on 8 bits (R378): C unchanged. -/
def dec8 (v : Byte) (f : Flags) : AluResult :=
  { value := v - 1, flags := { z := v - 1 == 0, n := true, h := v &&& 0x0F == 0x00, c := f.c } }

/-- `DAA` (R380). After an add the two corrections test A in turn, the second on the corrected A; after a subtract C
is never changed. -/
def daa8 (a : Byte) (f : Flags) : AluResult :=
  if f.n then
    let a1 := if f.c then a - 0x60 else a
    let a2 := if f.h then a1 - 0x06 else a1
    { value := a2, flags := { z := a2 == 0, n := true, h := false, c := f.c } }
  else
    let high := f.c || decide (a.toNat > 0x99)
    let a1 := if high then a + 0x60 else a
    let a2 := if f.h || decide ((a1 &&& 0x0F).toNat > 0x09) then a1 + 0x06 else a1
    { value := a2, flags := { z := a2 == 0, n := false, h := false, c := high } }

/-- A rotate or shift of a byte under the carry flag before (R430 to R450): the result and the bit shifted out, which
is 0 for `SWAP`. -/
def rotate (op : RotOp) (v : Byte) (c : Bool) : Byte × Bool :=
  match op with
  | .rlc => (v <<< 1 ||| bit0 (v.getLsbD 7), v.getLsbD 7)
  | .rrc => (v >>> 1 ||| bit0 (v.getLsbD 0) <<< 7, v.getLsbD 0)
  | .rl => (v <<< 1 ||| bit0 c, v.getLsbD 7)
  | .rr => (v >>> 1 ||| bit0 c <<< 7, v.getLsbD 0)
  | .sla => (v <<< 1, v.getLsbD 7)
  | .sra => (v >>> 1 ||| v &&& 0x80, v.getLsbD 0)
  | .swap => (v <<< 4 ||| v >>> 4, false)
  | .srl => (v >>> 1, v.getLsbD 0)

/-- The 0xCB-page form (section 3 of `43_rotate_shift_bit.md`): Z from the result, N = 0, H = 0, C the bit out. -/
def rot8 (op : RotOp) (v : Byte) (f : Flags) : AluResult :=
  let r := rotate op v f.c
  { value := r.1, flags := { z := r.1 == 0, n := false, h := false, c := r.2 } }

/-- The base-page rotates of A (R430 to R433): the same, but Z is always 0. -/
def rotA8 (op : RotOp) (v : Byte) (f : Flags) : AluResult :=
  let r := rotate op v f.c
  { value := r.1, flags := { z := false, n := false, h := false, c := r.2 } }

/-- The number an index field stands for. -/
def idxNat : Idx8 → Nat
  | .i0 => 0
  | .i1 => 1
  | .i2 => 2
  | .i3 => 3
  | .i4 => 4
  | .i5 => 5
  | .i6 => 6
  | .i7 => 7

/-- The flags after `BIT b` of a byte (R451): C unchanged. -/
def bitFlags (b : Idx8) (v : Byte) (f : Flags) : Flags :=
  { z := !v.getLsbD (idxNat b), n := false, h := true, c := f.c }

/-- `RES b` (R453). -/
def res8 (b : Idx8) (v : Byte) : Byte := v &&& ~~~((1 : Byte) <<< idxNat b)

/-- `SET b` (R455). -/
def set8 (b : Idx8) (v : Byte) : Byte := v ||| (1 : Byte) <<< idxNat b

/-- A 16-bit result with the flags after it. -/
structure Alu16Result where
  value : Addr
  flags : Flags
deriving DecidableEq, Repr

/-- `ADD HL,rr` (R402): Z unchanged, H the carry out of bit 11, C the carry out of bit 15. -/
def addHL16 (hl rr : Addr) (f : Flags) : Alu16Result :=
  let t := hl.toNat + rr.toNat
  { value := BitVec.ofNat 16 t
    flags := { z := f.z
               n := false
               h := decide ((hl &&& 0x0FFF).toNat + (rr &&& 0x0FFF).toNat > 0x0FFF)
               c := decide (t > 0xFFFF) } }

/-- `SP + e8` of `ADD SP,e8` and `LD HL,SP+e8` (R403, R404): the sum takes `e` signed, the flags come from the
unsigned addition of `e` to the low byte of SP. -/
def addSP16 (sp : Addr) (e : Byte) : Alu16Result :=
  { value := sp + sext16 e
    flags := { z := false
               n := false
               h := decide ((sp &&& 0x000F).toNat + (e &&& 0x0F).toNat > 0x0F)
               c := decide ((sp &&& 0x00FF).toNat + e.toNat > 0xFF) } }

end Sys2Proof.Machine
end

