-- ==== Sys2Proof/Machine/Registers.lean ====
section
/-! DEFINITION. Reading and writing the CPU's registers (`spec/10_state.md` R30 to R33): every meaning goes through
these. -/

namespace Sys2Proof.Machine

/-- The value of an 8-bit register. -/
def State.reg (r : Reg8) (s : State) : Byte :=
  match r with
  | .a => s.cpu.a
  | .b => s.cpu.b
  | .c => s.cpu.c
  | .d => s.cpu.d
  | .e => s.cpu.e
  | .h => s.cpu.h
  | .l => s.cpu.l

/-- Write an 8-bit register. -/
def State.setReg (r : Reg8) (v : Byte) (s : State) : State :=
  match r with
  | .a => { s with cpu := { s.cpu with a := v } }
  | .b => { s with cpu := { s.cpu with b := v } }
  | .c => { s with cpu := { s.cpu with c := v } }
  | .d => { s with cpu := { s.cpu with d := v } }
  | .e => { s with cpu := { s.cpu with e := v } }
  | .h => { s with cpu := { s.cpu with h := v } }
  | .l => { s with cpu := { s.cpu with l := v } }

/-- The flags of F. -/
def State.flags (s : State) : Flags := s.cpu.flags

/-- Write the flags of F. -/
def State.setFlags (f : Flags) (s : State) : State := { s with cpu := { s.cpu with flags := f } }

/-- Write SP. -/
def State.setSp (v : Addr) (s : State) : State := { s with cpu := { s.cpu with sp := v } }

/-- Write PC. -/
def State.setPc (v : Addr) (s : State) : State := { s with cpu := { s.cpu with pc := v } }

/-- A 16-bit view, the first named register in the high byte (R31), or SP. -/
def State.pair (p : Rp) (s : State) : Addr :=
  match p with
  | .bc => word16 s.cpu.b s.cpu.c
  | .de => word16 s.cpu.d s.cpu.e
  | .hl => word16 s.cpu.h s.cpu.l
  | .sp => s.cpu.sp

/-- Write a 16-bit view: both halves (R31). -/
def State.setPair (p : Rp) (v : Addr) (s : State) : State :=
  match p with
  | .bc => (s.setReg .b (hiByte v)).setReg .c (loByte v)
  | .de => (s.setReg .d (hiByte v)).setReg .e (loByte v)
  | .hl => (s.setReg .h (hiByte v)).setReg .l (loByte v)
  | .sp => s.setSp v

/-- HL. -/
def State.hl (s : State) : Addr := s.pair .hl

/-- The pair a `PUSH` stores (R330, R331); AF is A : F. -/
def State.pair2 (p : Rp2) (s : State) : Addr :=
  match p with
  | .bc => s.pair .bc
  | .de => s.pair .de
  | .hl => s.pair .hl
  | .af => word16 s.cpu.a s.cpu.flags.toByte

/-- The pair a `POP` loads (R332, R335). -/
def State.setPair2 (p : Rp2) (v : Addr) (s : State) : State :=
  match p with
  | .bc => s.setPair .bc v
  | .de => s.setPair .de v
  | .hl => s.setPair .hl v
  | .af => (s.setReg .a (hiByte v)).setFlags (Flags.ofByte (loByte v))

/-- `cycles += n` (`00_scope.md` R9). -/
def State.addCycles (n : Nat) (s : State) : State := { s with info := { s.info with cycles := s.info.cycles + n } }

end Sys2Proof.Machine
end

