-- ==== Sys2Proof/Machine/Ops.lean ====
section
/-! DEFINITION. The named operations of the CPU: the fetch, the stack, TAKING an interrupt and RETURNING from one, and
how an instruction ends (`spec/00_scope.md` R9, `60_exceptions.md` R601 to R618, R640 to R643). -/

namespace Sys2Proof.Machine

/-! ## Fetch -/

/-- `Fetch8()` (R9). -/
def State.fetch8 (s : State) : Byte × State :=
  let r := s.memRead s.cpu.pc
  (r.1, r.2.setPc (r.2.cpu.pc + 1))

/-- The fetch of an opcode byte: `Fetch8()`, which after the halt bug does not increment PC once (`45_system.md`
R509). The opcode's address is kept for the record of R601. -/
def State.fetchOpcode (s : State) : Byte × State :=
  let s1 : State := { s with info := { s.info with instPc := s.cpu.pc } }
  if s.cpu.haltBug then
    let r := s1.memRead s1.cpu.pc
    (r.1, { r.2 with cpu := { r.2.cpu with haltBug := false } })
  else s1.fetch8

/-- `n` further bytes, in order. -/
def fetchMore : Nat → State → List Byte × State
  | 0, s => ([], s)
  | n + 1, s =>
    let r := s.fetch8
    let rest := fetchMore n r.2
    (r.1 :: rest.1, rest.2)

/-- The bytes of the next instruction: its opcode and as many more as the opcode needs (`30_encoding.md` R260, R267),
and the state with PC past them (`10_state.md` R36). -/
def State.fetchInstr (s : State) : List Byte × State :=
  let op := s.fetchOpcode
  let rest := fetchMore (instrLength op.1 - 1) op.2
  (op.1 :: rest.1, rest.2)

/-! ## Stack -/

/-- `Push16(v)` (R9) by an instruction whose opcode byte is `op`. -/
def State.push16 (s : State) (op : Byte) (v : Addr) : Except FaultRaised State :=
  let s1 := s.setSp (s.cpu.sp - 1)
  match s1.memWrite op s1.cpu.sp (hiByte v) with
  | .error e => .error e
  | .ok s2 =>
    let s3 := s2.setSp (s2.cpu.sp - 1)
    s3.memWrite op s3.cpu.sp (loByte v)

/-- `Pop16()` (R9). -/
def State.pop16 (s : State) : Addr × State :=
  let lo := s.memRead s.cpu.sp
  let s1 := lo.2.setSp (lo.2.cpu.sp + 1)
  let hi := s1.memRead s1.cpu.sp
  let s2 := hi.2.setSp (hi.2.cpu.sp + 1)
  (word16 hi.1 lo.1, s2)

/-! ## Interrupts -/

/-- `IE & IF & 0x1F` (R612). -/
def Irq.enabledRequests (q : Irq) : BitVec 5 := q.ie.setWidth 5 &&& q.req

/-- `pending()` (R612). -/
def State.pending (s : State) : Bool := s.irq.enabledRequests != 0

/-- The lowest set bit (R613). -/
def lowestBit (v : BitVec 5) : Nat :=
  if v.getLsbD 0 then 0
  else if v.getLsbD 1 then 1
  else if v.getLsbD 2 then 2
  else if v.getLsbD 3 then 3
  else 4

/-- The vector of request `i` (R613). -/
def vector (i : Nat) : Addr := BitVec.ofNat 16 (0x0040 + 8 * i)

/-- The address a dispatch pushes (R614): PC, or the `HALT` itself after `EI; HALT`. -/
def State.returnAddr (s : State) : Addr := if s.cpu.haltBug then s.cpu.pc - 1 else s.cpu.pc

/-- TAKING AN INTERRUPT (R613 to R615): the lowest pending enabled request is cleared in IF, IME and `halt_bug` are
cleared, the return address is pushed, PC goes to the vector, 20 T-cycles. The vector is chosen before the pushes. A
push that faults records the pushed PC and opcode 0x00 (R601). -/
def State.dispatchInterrupt (s : State) : Except FaultRaised State :=
  let i := lowestBit s.irq.enabledRequests
  let ret := s.returnAddr
  let s1 : State :=
    { s with
      irq := { s.irq with req := s.irq.req &&& ~~~((1 : BitVec 5) <<< i) }
      cpu := { s.cpu with ime := false, haltBug := false }
      info := { s.info with instPc := ret } }
  match s1.push16 0x00 ret with
  | .error e => .error e
  | .ok s2 => .ok ((s2.setPc (vector i)).addCycles 20)

/-- RETURNING FROM AN INTERRUPT (`44_control.md` R479, R618): PC is popped, IME is 1 at once, `ei_delay` is 0. -/
def State.returnFromInterrupt (s : State) : State :=
  let r := s.pop16
  { r.2 with cpu := { r.2.cpu with pc := r.1, ime := true, eiDelay := 0 } }

/-! ## How an instruction and a step end -/

/-- A fault is precise (R602): nothing of the instruction's effect persists, only the record is set. The draws made
stay used (log entry 6). -/
def State.raise (s : State) (e : FaultRaised) : State := { s with fault := some e.record, draws := e.draws }

/-- The outcome of a meaning that accesses the bus from `s`: its result at the cost `n`, or the fault it raised. -/
def finish (s : State) (n : Nat) (r : Except FaultRaised State) : Host.Outcome State Fault Refusal :=
  match r with
  | .ok t => .next (t.addCycles n)
  | .error e => .next (s.raise e)

/-- `EiDelayUpdate()` (R642). -/
def State.eiDelayUpdate (s : State) : State :=
  if s.cpu.eiDelay = 2 then { s with cpu := { s.cpu with eiDelay := 1 } }
  else if s.cpu.eiDelay = 1 then { s with cpu := { s.cpu with ime := true, eiDelay := 0 } }
  else s

/-- No step happens: no cartridge is loaded (`80_host_interface.md` R782), or a fault is set (`10_state.md` R41,
R640). -/
def State.idle (s : State) : Bool := decide (s.cart.status ≠ .loaded) || s.fault.isSome

/-- At the start of a step with the CPU Running, an interrupt is dispatched (R612). -/
def State.interruptTaken (s : State) : Bool := s.cpu.ime && s.pending

/-- The record of the latest step, cleared at the start of a step (log entries 10 and 21). -/
def State.beginStep (s : State) : State := { s with info := StepInfo.none }

/-- `AdvanceDevices(cycles)` at the end of a step (R640), nothing in the Stopped mode (R639, `45_system.md` R510; log
entry 8). -/
def State.advance (s : State) : State := if s.cpu.mode = .stopped then s else advanceDevices s.info.cycles s

/-- The end of a step that ran an instruction from `s0` and reached `t` (R640): a fault leaves the state at the start
of the step with the record set (R602); otherwise `EiDelayUpdate()` and the devices' advance. -/
def endInstr (s0 t : State) : State :=
  match t.fault with
  | some r => s0.raise { record := r, draws := t.draws }
  | none => t.eiDelayUpdate.advance

/-- The step that dispatches an interrupt (R614, R615): no `EiDelayUpdate()` (R642). -/
def dispatchStep (s0 s : State) : State :=
  match s.dispatchInterrupt with
  | .ok t => t.advance
  | .error e => s0.raise e

/-- `HaltedStep()` (R641). -/
def State.haltedStep (s : State) : State :=
  let s1 := s.addCycles 4
  ((if s.pending then { s1 with cpu := { s1.cpu with mode := .running } } else s1 : State)).advance

/-- `StoppedStep()` (R643, `45_system.md` R511): the devices do not advance. -/
def State.stoppedStep (s : State) : State :=
  let s1 := s.addCycles 4
  if s.joypad.lines ≠ 0xF then { s1 with cpu := { s1.cpu with mode := .running } } else s1

end Sys2Proof.Machine
end

