-- ==== Sys2Proof/Machine/Operands.lean ====
section
/-! DEFINITION. The operand forms and what the instructions of one shape share (`spec/30_encoding.md` R263, R264,
`41_alu8.md` R350, `43_rotate_shift_bit.md` R434). In each, PC already points past the instruction and the immediates
have been fetched (`40_loads.md`). `op` is the instruction's opcode byte, for the fault record of R601. -/

namespace Sys2Proof.Machine

/-- What a meaning answers. -/
abbrev Out := Host.Outcome State Fault Refusal

/-- The outcome of an instruction that cannot fault: the state it reached, at the cost `n`. -/
def done (n : Nat) (s : State) : Out := .next (s.addCycles n)

/-- Go on after a bus write, if it did not fault. -/
def andThen (r : Except FaultRaised State) (f : State → State) : Except FaultRaised State :=
  match r with
  | .ok t => .ok (f t)
  | .error e => .error e

/-- The address of `LDH` and `LD (C)` forms: `0xFF00 + zext_16(n)` (R264). -/
def highPage (n : Byte) : Addr := 0xFF00 + zext16 n

/-! ## Loads and stores (`40_loads.md`) -/

/-- `r <- r'` (R300). -/
def ldRegReg (dst src : Reg8) (s : State) : Out := done 4 (s.setReg dst (s.reg src))

/-- `r <- n8` (R301). -/
def ldRegImm (dst : Reg8) (n : Byte) (s : State) : Out := done 8 (s.setReg dst n)

/-- `r <- MemRead(a, 1)` (R302, R305, R306, R309, R311, R313). -/
def loadReg (dst : Reg8) (a : Addr) (cycles : Nat) (s : State) : Out :=
  let r := s.memRead a
  done cycles (r.2.setReg dst r.1)

/-- `MemWrite(a, 1, v)` (R303, R304, R307, R308, R310, R312, R314). -/
def storeByte (op : Byte) (a : Addr) (v : Byte) (cycles : Nat) (s : State) : Out := finish s cycles (s.memWrite op a v)

/-- `A <- MemRead(HL, 1); HL <- HL + delta` (R315, R316). -/
def loadStepHL (delta : Addr) (s : State) : Out :=
  let r := s.memRead s.hl
  done 8 ((r.2.setReg .a r.1).setPair .hl (s.hl + delta))

/-- `MemWrite(HL, 1, A); HL <- HL + delta` (R317, R318). -/
def storeStepHL (op : Byte) (delta : Addr) (s : State) : Out :=
  finish s 8 (andThen (s.memWrite op s.hl (s.reg .a)) fun t => t.setPair .hl (s.hl + delta))

/-- `rr <- n16` (R320). -/
def ldPairImm (p : Rp) (n : Addr) (s : State) : Out := done 12 (s.setPair p n)

/-- `MemWrite(a, 1, SP[7:0]); MemWrite(a + 1, 1, SP[15:8])` (R321). -/
def storeSp (op : Byte) (a : Addr) (s : State) : Out :=
  finish s 20
    (match s.memWrite op a (loByte s.cpu.sp) with
      | .ok t => t.memWrite op (a + 1) (hiByte s.cpu.sp)
      | .error e => .error e)

/-- `Push16(rr)` (R330, R331). -/
def pushPair (op : Byte) (p : Rp2) (s : State) : Out := finish s 16 (s.push16 op (s.pair2 p))

/-- `rr <- Pop16()` (R332, R335). -/
def popPair (p : Rp2) (s : State) : Out :=
  let r := s.pop16
  done 12 (r.2.setPair2 p r.1)

/-! ## 8-bit arithmetic and logic (`41_alu8.md`) -/

/-- Register form (R350). -/
def aluReg (op : AluOp) (src : Reg8) (s : State) : Out :=
  let x := alu8 op (s.reg .a) (s.reg src) s.flags
  done 4 ((s.setReg .a x.value).setFlags x.flags)

/-- Memory form (R350). -/
def aluMem (op : AluOp) (s : State) : Out :=
  let r := s.memRead s.hl
  let x := alu8 op (s.reg .a) r.1 s.flags
  done 8 ((r.2.setReg .a x.value).setFlags x.flags)

/-- Immediate form (R350). -/
def aluImm (op : AluOp) (n : Byte) (s : State) : Out :=
  let x := alu8 op (s.reg .a) n s.flags
  done 8 ((s.setReg .a x.value).setFlags x.flags)

/-- A one-operand operation on a register. -/
def updReg (f : Byte → Flags → AluResult) (r : Reg8) (cycles : Nat) (s : State) : Out :=
  let x := f (s.reg r) s.flags
  done cycles ((s.setReg r x.value).setFlags x.flags)

/-- A one-operand operation on the byte at HL: read, compute, write back (R143 of `20_memory.md`). -/
def updMem (op : Byte) (f : Byte → Flags → AluResult) (cycles : Nat) (s : State) : Out :=
  let r := s.memRead s.hl
  let x := f r.1 s.flags
  finish s cycles (andThen (r.2.memWrite op s.hl x.value) fun t => t.setFlags x.flags)

/-! ## 16-bit arithmetic (`42_alu16.md`) -/

/-- `rr <- rr + delta`, no flag (R400, R401). -/
def addPair (p : Rp) (delta : Addr) (s : State) : Out := done 8 (s.setPair p (s.pair p + delta))

/-- `ADD HL,rr` (R402). -/
def addHLPair (p : Rp) (s : State) : Out :=
  let x := addHL16 s.hl (s.pair p) s.flags
  done 8 ((s.setPair .hl x.value).setFlags x.flags)

/-! ## Bit operations (R451 to R456) -/

/-- `BIT b,r`. -/
def bitReg (b : Idx8) (r : Reg8) (s : State) : Out := done 8 (s.setFlags (bitFlags b (s.reg r) s.flags))

/-- `BIT b,(HL)`: memory is not written. -/
def bitMem (b : Idx8) (s : State) : Out :=
  let r := s.memRead s.hl
  done 12 (r.2.setFlags (bitFlags b r.1 s.flags))

/-- `RES b` and `SET b` on a register: no flag. -/
def mapReg (f : Byte → Byte) (r : Reg8) (s : State) : Out := done 8 (s.setReg r (f (s.reg r)))

/-- `RES b` and `SET b` on the byte at HL: the write happens whatever the bit was; no flag. -/
def mapMem (op : Byte) (f : Byte → Byte) (s : State) : Out :=
  let r := s.memRead s.hl
  finish s 16 (r.2.memWrite op s.hl (f r.1))

/-! ## Control transfer (`44_control.md`) -/

/-- `PC <- a`. -/
def jumpTo (a : Addr) (cycles : Nat) (s : State) : Out := done cycles (s.setPc a)

/-- `PC <- a` if the condition holds, at one of two costs (R471, R474). -/
def jumpIf (cnd : Cond) (a : Addr) (taken notTaken : Nat) (s : State) : Out :=
  if s.flags.cond cnd then jumpTo a taken s else done notTaken s

/-- The target of `JR` (R473): `PC + sext_16(e)`, PC past the instruction. -/
def relTarget (e : Byte) (s : State) : Addr := s.cpu.pc + sext16 e

/-- `Push16(PC); PC <- a` (R475, R480). -/
def callTo (op : Byte) (a : Addr) (cycles : Nat) (s : State) : Out :=
  finish s cycles (andThen (s.push16 op s.cpu.pc) fun t => t.setPc a)

/-- `CALL cc` (R476): not taken, nothing is pushed. -/
def callIf (op : Byte) (cnd : Cond) (a : Addr) (s : State) : Out :=
  if s.flags.cond cnd then callTo op a 24 s else done 12 s

/-- `PC <- Pop16()` (R477). -/
def retFrom (cycles : Nat) (s : State) : Out :=
  let r := s.pop16
  done cycles (r.2.setPc r.1)

/-- `RET cc` (R478). -/
def retIf (cnd : Cond) (s : State) : Out := if s.flags.cond cnd then retFrom 20 s else done 8 s

/-- `RST t`: the target is `y * 8` (R480). -/
def rstTo (op : Byte) (y : Idx8) (s : State) : Out := callTo op (BitVec.ofNat 16 (8 * idxNat y)) 16 s

/-! ## The 0xCB page by fields (R266, R434) -/

/-- The instruction of the second byte `o`, from its fields: what `PREFIX CB` executes (`45_system.md` R501). -/
def cbPage (o : Byte) (s : State) : Out :=
  let y := fieldY o
  match fieldX o, r8 (fieldZ o) with
  | 0, some r => updReg (rot8 (rot y)) r 8 s
  | 0, none => updMem 0xCB (rot8 (rot y)) 16 s
  | 1, some r => bitReg (idx8 y) r s
  | 1, none => bitMem (idx8 y) s
  | 2, some r => mapReg (res8 (idx8 y)) r s
  | 2, none => mapMem 0xCB (res8 (idx8 y)) s
  | _, some r => mapReg (set8 (idx8 y)) r s
  | _, none => mapMem 0xCB (set8 (idx8 y)) s

/-- `raise Fault(IllegalOpcode)` (R502): the record names the opcode's address and byte; nothing else changes. -/
def illegalOpcode (op : Byte) (s : State) : Out :=
  .next { s with fault := some { kind := .illegalOpcode, pc := s.info.instPc, addr := s.info.instPc, opcode := op } }

end Sys2Proof.Machine
end

