-- ==== Sys2Proof/Machine/Alu16.lean ====
section
/-! DEFINITION. 16-bit arithmetic (`spec/42_alu16.md`): the meaning of each instruction of the family. -/

namespace Sys2Proof.Machine

/-- `INC BC` (R400). -/
def exec_inc_bc (s : State) : Out := addPair .bc 1 s

/-- `ADD HL,BC` (R402). -/
def exec_add_hl_bc (s : State) : Out := addHLPair .bc s

/-- `DEC BC` (R401). -/
def exec_dec_bc (s : State) : Out := addPair .bc (-1) s

/-- `INC DE` (R400). -/
def exec_inc_de (s : State) : Out := addPair .de 1 s

/-- `ADD HL,DE` (R402). -/
def exec_add_hl_de (s : State) : Out := addHLPair .de s

/-- `DEC DE` (R401). -/
def exec_dec_de (s : State) : Out := addPair .de (-1) s

/-- `INC HL` (R400). -/
def exec_inc_hl (s : State) : Out := addPair .hl 1 s

/-- `ADD HL,HL` (R402). -/
def exec_add_hl_hl (s : State) : Out := addHLPair .hl s

/-- `DEC HL` (R401). -/
def exec_dec_hl (s : State) : Out := addPair .hl (-1) s

/-- `INC SP` (R400). -/
def exec_inc_sp (s : State) : Out := addPair .sp 1 s

/-- `ADD HL,SP` (R402). -/
def exec_add_hl_sp (s : State) : Out := addHLPair .sp s

/-- `DEC SP` (R401). -/
def exec_dec_sp (s : State) : Out := addPair .sp (-1) s

/-- `ADD SP,e8` (R403). -/
def exec_add_sp_e8 (e : Byte) (s : State) : Out :=
  let x := addSP16 s.cpu.sp e; done 16 ((s.setSp x.value).setFlags x.flags)

/-- `LD HL,SP+e8` (R404). -/
def exec_ld_hl_sp_e8 (e : Byte) (s : State) : Out :=
  let x := addSP16 s.cpu.sp e; done 12 ((s.setPair .hl x.value).setFlags x.flags)

end Sys2Proof.Machine
end

