-- ==== Sys2Proof/Machine/Alu8.lean ====
section
/-! DEFINITION. 8-bit arithmetic and logic (`spec/41_alu8.md`): the meaning of each instruction of the family. -/

namespace Sys2Proof.Machine

/-- `INC B` (R376). -/
def exec_inc_b (s : State) : Out := updReg inc8 .b 4 s

/-- `DEC B` (R378). -/
def exec_dec_b (s : State) : Out := updReg dec8 .b 4 s

/-- `INC C` (R376). -/
def exec_inc_c (s : State) : Out := updReg inc8 .c 4 s

/-- `DEC C` (R378). -/
def exec_dec_c (s : State) : Out := updReg dec8 .c 4 s

/-- `INC D` (R376). -/
def exec_inc_d (s : State) : Out := updReg inc8 .d 4 s

/-- `DEC D` (R378). -/
def exec_dec_d (s : State) : Out := updReg dec8 .d 4 s

/-- `INC E` (R376). -/
def exec_inc_e (s : State) : Out := updReg inc8 .e 4 s

/-- `DEC E` (R378). -/
def exec_dec_e (s : State) : Out := updReg dec8 .e 4 s

/-- `INC H` (R376). -/
def exec_inc_h (s : State) : Out := updReg inc8 .h 4 s

/-- `DEC H` (R378). -/
def exec_dec_h (s : State) : Out := updReg dec8 .h 4 s

/-- `DAA` (R380). -/
def exec_daa (s : State) : Out := updReg daa8 .a 4 s

/-- `INC L` (R376). -/
def exec_inc_l (s : State) : Out := updReg inc8 .l 4 s

/-- `DEC L` (R378). -/
def exec_dec_l (s : State) : Out := updReg dec8 .l 4 s

/-- `CPL` (R381). -/
def exec_cpl (s : State) : Out := done 4 ((s.setReg .a (~~~s.reg .a)).setFlags { s.flags with n := true, h := true })

/-- `INC (HL)` (R377). -/
def exec_inc_atHL (s : State) : Out := updMem 0x34 inc8 12 s

/-- `DEC (HL)` (R379). -/
def exec_dec_atHL (s : State) : Out := updMem 0x35 dec8 12 s

/-- `SCF` (R382). -/
def exec_scf (s : State) : Out := done 4 (s.setFlags { s.flags with n := false, h := false, c := true })

/-- `INC A` (R376). -/
def exec_inc_a (s : State) : Out := updReg inc8 .a 4 s

/-- `DEC A` (R378). -/
def exec_dec_a (s : State) : Out := updReg dec8 .a 4 s

/-- `CCF` (R383). -/
def exec_ccf (s : State) : Out := done 4 (s.setFlags { s.flags with n := false, h := false, c := !s.flags.c })

/-- `ADD A,B` (R352). -/
def exec_add_a_b (s : State) : Out := aluReg .add .b s

/-- `ADD A,C` (R352). -/
def exec_add_a_c (s : State) : Out := aluReg .add .c s

/-- `ADD A,D` (R352). -/
def exec_add_a_d (s : State) : Out := aluReg .add .d s

/-- `ADD A,E` (R352). -/
def exec_add_a_e (s : State) : Out := aluReg .add .e s

/-- `ADD A,H` (R352). -/
def exec_add_a_h (s : State) : Out := aluReg .add .h s

/-- `ADD A,L` (R352). -/
def exec_add_a_l (s : State) : Out := aluReg .add .l s

/-- `ADD A,(HL)` (R353). -/
def exec_add_a_atHL (s : State) : Out := aluMem .add s

/-- `ADD A,A` (R352). -/
def exec_add_a_a (s : State) : Out := aluReg .add .a s

/-- `ADC A,B` (R355). -/
def exec_adc_a_b (s : State) : Out := aluReg .adc .b s

/-- `ADC A,C` (R355). -/
def exec_adc_a_c (s : State) : Out := aluReg .adc .c s

/-- `ADC A,D` (R355). -/
def exec_adc_a_d (s : State) : Out := aluReg .adc .d s

/-- `ADC A,E` (R355). -/
def exec_adc_a_e (s : State) : Out := aluReg .adc .e s

/-- `ADC A,H` (R355). -/
def exec_adc_a_h (s : State) : Out := aluReg .adc .h s

/-- `ADC A,L` (R355). -/
def exec_adc_a_l (s : State) : Out := aluReg .adc .l s

/-- `ADC A,(HL)` (R356). -/
def exec_adc_a_atHL (s : State) : Out := aluMem .adc s

/-- `ADC A,A` (R355). -/
def exec_adc_a_a (s : State) : Out := aluReg .adc .a s

/-- `SUB B` (R358). -/
def exec_sub_b (s : State) : Out := aluReg .sub .b s

/-- `SUB C` (R358). -/
def exec_sub_c (s : State) : Out := aluReg .sub .c s

/-- `SUB D` (R358). -/
def exec_sub_d (s : State) : Out := aluReg .sub .d s

/-- `SUB E` (R358). -/
def exec_sub_e (s : State) : Out := aluReg .sub .e s

/-- `SUB H` (R358). -/
def exec_sub_h (s : State) : Out := aluReg .sub .h s

/-- `SUB L` (R358). -/
def exec_sub_l (s : State) : Out := aluReg .sub .l s

/-- `SUB (HL)` (R359). -/
def exec_sub_atHL (s : State) : Out := aluMem .sub s

/-- `SUB A` (R358). -/
def exec_sub_a (s : State) : Out := aluReg .sub .a s

/-- `SBC A,B` (R361). -/
def exec_sbc_a_b (s : State) : Out := aluReg .sbc .b s

/-- `SBC A,C` (R361). -/
def exec_sbc_a_c (s : State) : Out := aluReg .sbc .c s

/-- `SBC A,D` (R361). -/
def exec_sbc_a_d (s : State) : Out := aluReg .sbc .d s

/-- `SBC A,E` (R361). -/
def exec_sbc_a_e (s : State) : Out := aluReg .sbc .e s

/-- `SBC A,H` (R361). -/
def exec_sbc_a_h (s : State) : Out := aluReg .sbc .h s

/-- `SBC A,L` (R361). -/
def exec_sbc_a_l (s : State) : Out := aluReg .sbc .l s

/-- `SBC A,(HL)` (R362). -/
def exec_sbc_a_atHL (s : State) : Out := aluMem .sbc s

/-- `SBC A,A` (R361). -/
def exec_sbc_a_a (s : State) : Out := aluReg .sbc .a s

/-- `AND B` (R364). -/
def exec_and_b (s : State) : Out := aluReg .and .b s

/-- `AND C` (R364). -/
def exec_and_c (s : State) : Out := aluReg .and .c s

/-- `AND D` (R364). -/
def exec_and_d (s : State) : Out := aluReg .and .d s

/-- `AND E` (R364). -/
def exec_and_e (s : State) : Out := aluReg .and .e s

/-- `AND H` (R364). -/
def exec_and_h (s : State) : Out := aluReg .and .h s

/-- `AND L` (R364). -/
def exec_and_l (s : State) : Out := aluReg .and .l s

/-- `AND (HL)` (R365). -/
def exec_and_atHL (s : State) : Out := aluMem .and s

/-- `AND A` (R364). -/
def exec_and_a (s : State) : Out := aluReg .and .a s

/-- `XOR B` (R367). -/
def exec_xor_b (s : State) : Out := aluReg .xor .b s

/-- `XOR C` (R367). -/
def exec_xor_c (s : State) : Out := aluReg .xor .c s

/-- `XOR D` (R367). -/
def exec_xor_d (s : State) : Out := aluReg .xor .d s

/-- `XOR E` (R367). -/
def exec_xor_e (s : State) : Out := aluReg .xor .e s

/-- `XOR H` (R367). -/
def exec_xor_h (s : State) : Out := aluReg .xor .h s

/-- `XOR L` (R367). -/
def exec_xor_l (s : State) : Out := aluReg .xor .l s

/-- `XOR (HL)` (R368). -/
def exec_xor_atHL (s : State) : Out := aluMem .xor s

/-- `XOR A` (R367). -/
def exec_xor_a (s : State) : Out := aluReg .xor .a s

/-- `OR B` (R370). -/
def exec_or_b (s : State) : Out := aluReg .or .b s

/-- `OR C` (R370). -/
def exec_or_c (s : State) : Out := aluReg .or .c s

/-- `OR D` (R370). -/
def exec_or_d (s : State) : Out := aluReg .or .d s

/-- `OR E` (R370). -/
def exec_or_e (s : State) : Out := aluReg .or .e s

/-- `OR H` (R370). -/
def exec_or_h (s : State) : Out := aluReg .or .h s

/-- `OR L` (R370). -/
def exec_or_l (s : State) : Out := aluReg .or .l s

/-- `OR (HL)` (R371). -/
def exec_or_atHL (s : State) : Out := aluMem .or s

/-- `OR A` (R370). -/
def exec_or_a (s : State) : Out := aluReg .or .a s

/-- `CP B` (R373). -/
def exec_cp_b (s : State) : Out := aluReg .cp .b s

/-- `CP C` (R373). -/
def exec_cp_c (s : State) : Out := aluReg .cp .c s

/-- `CP D` (R373). -/
def exec_cp_d (s : State) : Out := aluReg .cp .d s

/-- `CP E` (R373). -/
def exec_cp_e (s : State) : Out := aluReg .cp .e s

/-- `CP H` (R373). -/
def exec_cp_h (s : State) : Out := aluReg .cp .h s

/-- `CP L` (R373). -/
def exec_cp_l (s : State) : Out := aluReg .cp .l s

/-- `CP (HL)` (R374). -/
def exec_cp_atHL (s : State) : Out := aluMem .cp s

/-- `CP A` (R373). -/
def exec_cp_a (s : State) : Out := aluReg .cp .a s

/-- `ADD A,n8` (R354). -/
def exec_add_a_n8 (n : Byte) (s : State) : Out := aluImm .add n s

/-- `ADC A,n8` (R357). -/
def exec_adc_a_n8 (n : Byte) (s : State) : Out := aluImm .adc n s

/-- `SUB n8` (R360). -/
def exec_sub_n8 (n : Byte) (s : State) : Out := aluImm .sub n s

/-- `SBC A,n8` (R363). -/
def exec_sbc_a_n8 (n : Byte) (s : State) : Out := aluImm .sbc n s

/-- `AND n8` (R366). -/
def exec_and_n8 (n : Byte) (s : State) : Out := aluImm .and n s

/-- `XOR n8` (R369). -/
def exec_xor_n8 (n : Byte) (s : State) : Out := aluImm .xor n s

/-- `OR n8` (R372). -/
def exec_or_n8 (n : Byte) (s : State) : Out := aluImm .or n s

/-- `CP n8` (R375). -/
def exec_cp_n8 (n : Byte) (s : State) : Out := aluImm .cp n s

end Sys2Proof.Machine
end

