-- ==== Sys2Proof/Machine/Control.lean ====
section
/-! DEFINITION. Jumps, calls and returns (`spec/44_control.md`): the meaning of each instruction of the family. -/

namespace Sys2Proof.Machine

/-- `JR e8` (R473). -/
def exec_jr_e8 (e : Byte) (s : State) : Out := jumpTo (relTarget e s) 12 s

/-- `JR NZ,e8` (R474). -/
def exec_jr_nz_e8 (e : Byte) (s : State) : Out := jumpIf .nz (relTarget e s) 12 8 s

/-- `JR Z,e8` (R474). -/
def exec_jr_z_e8 (e : Byte) (s : State) : Out := jumpIf .z (relTarget e s) 12 8 s

/-- `JR NC,e8` (R474). -/
def exec_jr_nc_e8 (e : Byte) (s : State) : Out := jumpIf .nc (relTarget e s) 12 8 s

/-- `JR C,e8` (R474). -/
def exec_jr_c_e8 (e : Byte) (s : State) : Out := jumpIf .c (relTarget e s) 12 8 s

/-- `RET NZ` (R478). -/
def exec_ret_nz (s : State) : Out := retIf .nz s

/-- `JP NZ,n16` (R471). -/
def exec_jp_nz_n16 (n : Addr) (s : State) : Out := jumpIf .nz n 16 12 s

/-- `JP n16` (R470). -/
def exec_jp_n16 (n : Addr) (s : State) : Out := jumpTo n 16 s

/-- `CALL NZ,n16` (R476). -/
def exec_call_nz_n16 (n : Addr) (s : State) : Out := callIf 0xC4 .nz n s

/-- `RST 0x00` (R480). -/
def exec_rst_00 (s : State) : Out := rstTo 0xC7 .i0 s

/-- `RET Z` (R478). -/
def exec_ret_z (s : State) : Out := retIf .z s

/-- `RET` (R477). -/
def exec_ret (s : State) : Out := retFrom 16 s

/-- `JP Z,n16` (R471). -/
def exec_jp_z_n16 (n : Addr) (s : State) : Out := jumpIf .z n 16 12 s

/-- `CALL Z,n16` (R476). -/
def exec_call_z_n16 (n : Addr) (s : State) : Out := callIf 0xCC .z n s

/-- `CALL n16` (R475). -/
def exec_call_n16 (n : Addr) (s : State) : Out := callTo 0xCD n 24 s

/-- `RST 0x08` (R480). -/
def exec_rst_08 (s : State) : Out := rstTo 0xCF .i1 s

/-- `RET NC` (R478). -/
def exec_ret_nc (s : State) : Out := retIf .nc s

/-- `JP NC,n16` (R471). -/
def exec_jp_nc_n16 (n : Addr) (s : State) : Out := jumpIf .nc n 16 12 s

/-- `CALL NC,n16` (R476). -/
def exec_call_nc_n16 (n : Addr) (s : State) : Out := callIf 0xD4 .nc n s

/-- `RST 0x10` (R480). -/
def exec_rst_10 (s : State) : Out := rstTo 0xD7 .i2 s

/-- `RET C` (R478). -/
def exec_ret_c (s : State) : Out := retIf .c s

/-- `RETI` (R479). -/
def exec_reti (s : State) : Out := done 16 s.returnFromInterrupt

/-- `JP C,n16` (R471). -/
def exec_jp_c_n16 (n : Addr) (s : State) : Out := jumpIf .c n 16 12 s

/-- `CALL C,n16` (R476). -/
def exec_call_c_n16 (n : Addr) (s : State) : Out := callIf 0xDC .c n s

/-- `RST 0x18` (R480). -/
def exec_rst_18 (s : State) : Out := rstTo 0xDF .i3 s

/-- `RST 0x20` (R480). -/
def exec_rst_20 (s : State) : Out := rstTo 0xE7 .i4 s

/-- `JP HL` (R472). -/
def exec_jp_hl (s : State) : Out := jumpTo s.hl 4 s

/-- `RST 0x28` (R480). -/
def exec_rst_28 (s : State) : Out := rstTo 0xEF .i5 s

/-- `RST 0x30` (R480). -/
def exec_rst_30 (s : State) : Out := rstTo 0xF7 .i6 s

/-- `RST 0x38` (R480). -/
def exec_rst_38 (s : State) : Out := rstTo 0xFF .i7 s

end Sys2Proof.Machine
end

