-- ==== Sys2Proof/Machine/Loads.lean ====
section
/-! DEFINITION. Loads, stores and stack transfers (`spec/40_loads.md`): the meaning of each instruction of the family. -/

namespace Sys2Proof.Machine

/-- `LD BC,n16` (R320). -/
def exec_ld_bc_n16 (n : Addr) (s : State) : Out := ldPairImm .bc n s

/-- `LD (BC),A` (R307). -/
def exec_ld_atBC_a (s : State) : Out := storeByte 0x02 (s.pair .bc) (s.reg .a) 8 s

/-- `LD B,n8` (R301). -/
def exec_ld_b_n8 (n : Byte) (s : State) : Out := ldRegImm .b n s

/-- `LD (n16),SP` (R321). -/
def exec_ld_atN16_sp (n : Addr) (s : State) : Out := storeSp 0x08 n s

/-- `LD A,(BC)` (R305). -/
def exec_ld_a_atBC (s : State) : Out := loadReg .a (s.pair .bc) 8 s

/-- `LD C,n8` (R301). -/
def exec_ld_c_n8 (n : Byte) (s : State) : Out := ldRegImm .c n s

/-- `LD DE,n16` (R320). -/
def exec_ld_de_n16 (n : Addr) (s : State) : Out := ldPairImm .de n s

/-- `LD (DE),A` (R308). -/
def exec_ld_atDE_a (s : State) : Out := storeByte 0x12 (s.pair .de) (s.reg .a) 8 s

/-- `LD D,n8` (R301). -/
def exec_ld_d_n8 (n : Byte) (s : State) : Out := ldRegImm .d n s

/-- `LD A,(DE)` (R306). -/
def exec_ld_a_atDE (s : State) : Out := loadReg .a (s.pair .de) 8 s

/-- `LD E,n8` (R301). -/
def exec_ld_e_n8 (n : Byte) (s : State) : Out := ldRegImm .e n s

/-- `LD HL,n16` (R320). -/
def exec_ld_hl_n16 (n : Addr) (s : State) : Out := ldPairImm .hl n s

/-- `LD (HL+),A` (R317). -/
def exec_ld_atHLI_a (s : State) : Out := storeStepHL 0x22 1 s

/-- `LD H,n8` (R301). -/
def exec_ld_h_n8 (n : Byte) (s : State) : Out := ldRegImm .h n s

/-- `LD A,(HL+)` (R315). -/
def exec_ld_a_atHLI (s : State) : Out := loadStepHL 1 s

/-- `LD L,n8` (R301). -/
def exec_ld_l_n8 (n : Byte) (s : State) : Out := ldRegImm .l n s

/-- `LD SP,n16` (R320). -/
def exec_ld_sp_n16 (n : Addr) (s : State) : Out := ldPairImm .sp n s

/-- `LD (HL-),A` (R318). -/
def exec_ld_atHLD_a (s : State) : Out := storeStepHL 0x32 (-1) s

/-- `LD (HL),n8` (R304). -/
def exec_ld_atHL_n8 (n : Byte) (s : State) : Out := storeByte 0x36 s.hl n 12 s

/-- `LD A,(HL-)` (R316). -/
def exec_ld_a_atHLD (s : State) : Out := loadStepHL (-1) s

/-- `LD A,n8` (R301). -/
def exec_ld_a_n8 (n : Byte) (s : State) : Out := ldRegImm .a n s

/-- `LD B,B` (R300). -/
def exec_ld_b_b (s : State) : Out := ldRegReg .b .b s

/-- `LD B,C` (R300). -/
def exec_ld_b_c (s : State) : Out := ldRegReg .b .c s

/-- `LD B,D` (R300). -/
def exec_ld_b_d (s : State) : Out := ldRegReg .b .d s

/-- `LD B,E` (R300). -/
def exec_ld_b_e (s : State) : Out := ldRegReg .b .e s

/-- `LD B,H` (R300). -/
def exec_ld_b_h (s : State) : Out := ldRegReg .b .h s

/-- `LD B,L` (R300). -/
def exec_ld_b_l (s : State) : Out := ldRegReg .b .l s

/-- `LD B,(HL)` (R302). -/
def exec_ld_b_atHL (s : State) : Out := loadReg .b s.hl 8 s

/-- `LD B,A` (R300). -/
def exec_ld_b_a (s : State) : Out := ldRegReg .b .a s

/-- `LD C,B` (R300). -/
def exec_ld_c_b (s : State) : Out := ldRegReg .c .b s

/-- `LD C,C` (R300). -/
def exec_ld_c_c (s : State) : Out := ldRegReg .c .c s

/-- `LD C,D` (R300). -/
def exec_ld_c_d (s : State) : Out := ldRegReg .c .d s

/-- `LD C,E` (R300). -/
def exec_ld_c_e (s : State) : Out := ldRegReg .c .e s

/-- `LD C,H` (R300). -/
def exec_ld_c_h (s : State) : Out := ldRegReg .c .h s

/-- `LD C,L` (R300). -/
def exec_ld_c_l (s : State) : Out := ldRegReg .c .l s

/-- `LD C,(HL)` (R302). -/
def exec_ld_c_atHL (s : State) : Out := loadReg .c s.hl 8 s

/-- `LD C,A` (R300). -/
def exec_ld_c_a (s : State) : Out := ldRegReg .c .a s

/-- `LD D,B` (R300). -/
def exec_ld_d_b (s : State) : Out := ldRegReg .d .b s

/-- `LD D,C` (R300). -/
def exec_ld_d_c (s : State) : Out := ldRegReg .d .c s

/-- `LD D,D` (R300). -/
def exec_ld_d_d (s : State) : Out := ldRegReg .d .d s

/-- `LD D,E` (R300). -/
def exec_ld_d_e (s : State) : Out := ldRegReg .d .e s

/-- `LD D,H` (R300). -/
def exec_ld_d_h (s : State) : Out := ldRegReg .d .h s

/-- `LD D,L` (R300). -/
def exec_ld_d_l (s : State) : Out := ldRegReg .d .l s

/-- `LD D,(HL)` (R302). -/
def exec_ld_d_atHL (s : State) : Out := loadReg .d s.hl 8 s

/-- `LD D,A` (R300). -/
def exec_ld_d_a (s : State) : Out := ldRegReg .d .a s

/-- `LD E,B` (R300). -/
def exec_ld_e_b (s : State) : Out := ldRegReg .e .b s

/-- `LD E,C` (R300). -/
def exec_ld_e_c (s : State) : Out := ldRegReg .e .c s

/-- `LD E,D` (R300). -/
def exec_ld_e_d (s : State) : Out := ldRegReg .e .d s

/-- `LD E,E` (R300). -/
def exec_ld_e_e (s : State) : Out := ldRegReg .e .e s

/-- `LD E,H` (R300). -/
def exec_ld_e_h (s : State) : Out := ldRegReg .e .h s

/-- `LD E,L` (R300). -/
def exec_ld_e_l (s : State) : Out := ldRegReg .e .l s

/-- `LD E,(HL)` (R302). -/
def exec_ld_e_atHL (s : State) : Out := loadReg .e s.hl 8 s

/-- `LD E,A` (R300). -/
def exec_ld_e_a (s : State) : Out := ldRegReg .e .a s

/-- `LD H,B` (R300). -/
def exec_ld_h_b (s : State) : Out := ldRegReg .h .b s

/-- `LD H,C` (R300). -/
def exec_ld_h_c (s : State) : Out := ldRegReg .h .c s

/-- `LD H,D` (R300). -/
def exec_ld_h_d (s : State) : Out := ldRegReg .h .d s

/-- `LD H,E` (R300). -/
def exec_ld_h_e (s : State) : Out := ldRegReg .h .e s

/-- `LD H,H` (R300). -/
def exec_ld_h_h (s : State) : Out := ldRegReg .h .h s

/-- `LD H,L` (R300). -/
def exec_ld_h_l (s : State) : Out := ldRegReg .h .l s

/-- `LD H,(HL)` (R302). -/
def exec_ld_h_atHL (s : State) : Out := loadReg .h s.hl 8 s

/-- `LD H,A` (R300). -/
def exec_ld_h_a (s : State) : Out := ldRegReg .h .a s

/-- `LD L,B` (R300). -/
def exec_ld_l_b (s : State) : Out := ldRegReg .l .b s

/-- `LD L,C` (R300). -/
def exec_ld_l_c (s : State) : Out := ldRegReg .l .c s

/-- `LD L,D` (R300). -/
def exec_ld_l_d (s : State) : Out := ldRegReg .l .d s

/-- `LD L,E` (R300). -/
def exec_ld_l_e (s : State) : Out := ldRegReg .l .e s

/-- `LD L,H` (R300). -/
def exec_ld_l_h (s : State) : Out := ldRegReg .l .h s

/-- `LD L,L` (R300). -/
def exec_ld_l_l (s : State) : Out := ldRegReg .l .l s

/-- `LD L,(HL)` (R302). -/
def exec_ld_l_atHL (s : State) : Out := loadReg .l s.hl 8 s

/-- `LD L,A` (R300). -/
def exec_ld_l_a (s : State) : Out := ldRegReg .l .a s

/-- `LD (HL),B` (R303). -/
def exec_ld_atHL_b (s : State) : Out := storeByte 0x70 s.hl (s.reg .b) 8 s

/-- `LD (HL),C` (R303). -/
def exec_ld_atHL_c (s : State) : Out := storeByte 0x71 s.hl (s.reg .c) 8 s

/-- `LD (HL),D` (R303). -/
def exec_ld_atHL_d (s : State) : Out := storeByte 0x72 s.hl (s.reg .d) 8 s

/-- `LD (HL),E` (R303). -/
def exec_ld_atHL_e (s : State) : Out := storeByte 0x73 s.hl (s.reg .e) 8 s

/-- `LD (HL),H` (R303). -/
def exec_ld_atHL_h (s : State) : Out := storeByte 0x74 s.hl (s.reg .h) 8 s

/-- `LD (HL),L` (R303). -/
def exec_ld_atHL_l (s : State) : Out := storeByte 0x75 s.hl (s.reg .l) 8 s

/-- `LD (HL),A` (R303). -/
def exec_ld_atHL_a (s : State) : Out := storeByte 0x77 s.hl (s.reg .a) 8 s

/-- `LD A,B` (R300). -/
def exec_ld_a_b (s : State) : Out := ldRegReg .a .b s

/-- `LD A,C` (R300). -/
def exec_ld_a_c (s : State) : Out := ldRegReg .a .c s

/-- `LD A,D` (R300). -/
def exec_ld_a_d (s : State) : Out := ldRegReg .a .d s

/-- `LD A,E` (R300). -/
def exec_ld_a_e (s : State) : Out := ldRegReg .a .e s

/-- `LD A,H` (R300). -/
def exec_ld_a_h (s : State) : Out := ldRegReg .a .h s

/-- `LD A,L` (R300). -/
def exec_ld_a_l (s : State) : Out := ldRegReg .a .l s

/-- `LD A,(HL)` (R302). -/
def exec_ld_a_atHL (s : State) : Out := loadReg .a s.hl 8 s

/-- `LD A,A` (R300). -/
def exec_ld_a_a (s : State) : Out := ldRegReg .a .a s

/-- `POP BC` (R332). -/
def exec_pop_bc (s : State) : Out := popPair .bc s

/-- `PUSH BC` (R330). -/
def exec_push_bc (s : State) : Out := pushPair 0xC5 .bc s

/-- `POP DE` (R332). -/
def exec_pop_de (s : State) : Out := popPair .de s

/-- `PUSH DE` (R330). -/
def exec_push_de (s : State) : Out := pushPair 0xD5 .de s

/-- `LDH (a8),A` (R312). -/
def exec_ldh_atA8_a (a : Byte) (s : State) : Out := storeByte 0xE0 (highPage a) (s.reg .a) 12 s

/-- `POP HL` (R332). -/
def exec_pop_hl (s : State) : Out := popPair .hl s

/-- `LD (C),A` (R314). -/
def exec_ld_atC_a (s : State) : Out := storeByte 0xE2 (highPage (s.reg .c)) (s.reg .a) 8 s

/-- `PUSH HL` (R330). -/
def exec_push_hl (s : State) : Out := pushPair 0xE5 .hl s

/-- `LD (n16),A` (R310). -/
def exec_ld_atN16_a (n : Addr) (s : State) : Out := storeByte 0xEA n (s.reg .a) 16 s

/-- `LDH A,(a8)` (R311). -/
def exec_ldh_a_atA8 (a : Byte) (s : State) : Out := loadReg .a (highPage a) 12 s

/-- `POP AF` (R335). -/
def exec_pop_af (s : State) : Out := popPair .af s

/-- `LD A,(C)` (R313). -/
def exec_ld_a_atC (s : State) : Out := loadReg .a (highPage (s.reg .c)) 8 s

/-- `PUSH AF` (R331). -/
def exec_push_af (s : State) : Out := pushPair 0xF5 .af s

/-- `LD SP,HL` (R322). -/
def exec_ld_sp_hl (s : State) : Out := done 8 (s.setSp s.hl)

/-- `LD A,(n16)` (R309). -/
def exec_ld_a_atN16 (n : Addr) (s : State) : Out := loadReg .a n 16 s

end Sys2Proof.Machine
end

