-- ==== Sys2Proof/Machine/RotShiftBit.lean ====
section
/-! DEFINITION. Rotates, shifts and bit operations (`spec/43_rotate_shift_bit.md`): the meaning of each instruction of the family. -/

namespace Sys2Proof.Machine

/-- `RLCA` (R430). -/
def exec_rlca (s : State) : Out := updReg (rotA8 .rlc) .a 4 s

/-- `RRCA` (R431). -/
def exec_rrca (s : State) : Out := updReg (rotA8 .rrc) .a 4 s

/-- `RLA` (R432). -/
def exec_rla (s : State) : Out := updReg (rotA8 .rl) .a 4 s

/-- `RRA` (R433). -/
def exec_rra (s : State) : Out := updReg (rotA8 .rr) .a 4 s

/-- `RLC B` (R435). -/
def exec_rlc_b (s : State) : Out := updReg (rot8 .rlc) .b 8 s

/-- `RLC C` (R435). -/
def exec_rlc_c (s : State) : Out := updReg (rot8 .rlc) .c 8 s

/-- `RLC D` (R435). -/
def exec_rlc_d (s : State) : Out := updReg (rot8 .rlc) .d 8 s

/-- `RLC E` (R435). -/
def exec_rlc_e (s : State) : Out := updReg (rot8 .rlc) .e 8 s

/-- `RLC H` (R435). -/
def exec_rlc_h (s : State) : Out := updReg (rot8 .rlc) .h 8 s

/-- `RLC L` (R435). -/
def exec_rlc_l (s : State) : Out := updReg (rot8 .rlc) .l 8 s

/-- `RLC (HL)` (R436). -/
def exec_rlc_atHL (s : State) : Out := updMem 0xCB (rot8 .rlc) 16 s

/-- `RLC A` (R435). -/
def exec_rlc_a (s : State) : Out := updReg (rot8 .rlc) .a 8 s

/-- `RRC B` (R437). -/
def exec_rrc_b (s : State) : Out := updReg (rot8 .rrc) .b 8 s

/-- `RRC C` (R437). -/
def exec_rrc_c (s : State) : Out := updReg (rot8 .rrc) .c 8 s

/-- `RRC D` (R437). -/
def exec_rrc_d (s : State) : Out := updReg (rot8 .rrc) .d 8 s

/-- `RRC E` (R437). -/
def exec_rrc_e (s : State) : Out := updReg (rot8 .rrc) .e 8 s

/-- `RRC H` (R437). -/
def exec_rrc_h (s : State) : Out := updReg (rot8 .rrc) .h 8 s

/-- `RRC L` (R437). -/
def exec_rrc_l (s : State) : Out := updReg (rot8 .rrc) .l 8 s

/-- `RRC (HL)` (R438). -/
def exec_rrc_atHL (s : State) : Out := updMem 0xCB (rot8 .rrc) 16 s

/-- `RRC A` (R437). -/
def exec_rrc_a (s : State) : Out := updReg (rot8 .rrc) .a 8 s

/-- `RL B` (R439). -/
def exec_rl_b (s : State) : Out := updReg (rot8 .rl) .b 8 s

/-- `RL C` (R439). -/
def exec_rl_c (s : State) : Out := updReg (rot8 .rl) .c 8 s

/-- `RL D` (R439). -/
def exec_rl_d (s : State) : Out := updReg (rot8 .rl) .d 8 s

/-- `RL E` (R439). -/
def exec_rl_e (s : State) : Out := updReg (rot8 .rl) .e 8 s

/-- `RL H` (R439). -/
def exec_rl_h (s : State) : Out := updReg (rot8 .rl) .h 8 s

/-- `RL L` (R439). -/
def exec_rl_l (s : State) : Out := updReg (rot8 .rl) .l 8 s

/-- `RL (HL)` (R440). -/
def exec_rl_atHL (s : State) : Out := updMem 0xCB (rot8 .rl) 16 s

/-- `RL A` (R439). -/
def exec_rl_a (s : State) : Out := updReg (rot8 .rl) .a 8 s

/-- `RR B` (R441). -/
def exec_rr_b (s : State) : Out := updReg (rot8 .rr) .b 8 s

/-- `RR C` (R441). -/
def exec_rr_c (s : State) : Out := updReg (rot8 .rr) .c 8 s

/-- `RR D` (R441). -/
def exec_rr_d (s : State) : Out := updReg (rot8 .rr) .d 8 s

/-- `RR E` (R441). -/
def exec_rr_e (s : State) : Out := updReg (rot8 .rr) .e 8 s

/-- `RR H` (R441). -/
def exec_rr_h (s : State) : Out := updReg (rot8 .rr) .h 8 s

/-- `RR L` (R441). -/
def exec_rr_l (s : State) : Out := updReg (rot8 .rr) .l 8 s

/-- `RR (HL)` (R442). -/
def exec_rr_atHL (s : State) : Out := updMem 0xCB (rot8 .rr) 16 s

/-- `RR A` (R441). -/
def exec_rr_a (s : State) : Out := updReg (rot8 .rr) .a 8 s

/-- `SLA B` (R443). -/
def exec_sla_b (s : State) : Out := updReg (rot8 .sla) .b 8 s

/-- `SLA C` (R443). -/
def exec_sla_c (s : State) : Out := updReg (rot8 .sla) .c 8 s

/-- `SLA D` (R443). -/
def exec_sla_d (s : State) : Out := updReg (rot8 .sla) .d 8 s

/-- `SLA E` (R443). -/
def exec_sla_e (s : State) : Out := updReg (rot8 .sla) .e 8 s

/-- `SLA H` (R443). -/
def exec_sla_h (s : State) : Out := updReg (rot8 .sla) .h 8 s

/-- `SLA L` (R443). -/
def exec_sla_l (s : State) : Out := updReg (rot8 .sla) .l 8 s

/-- `SLA (HL)` (R444). -/
def exec_sla_atHL (s : State) : Out := updMem 0xCB (rot8 .sla) 16 s

/-- `SLA A` (R443). -/
def exec_sla_a (s : State) : Out := updReg (rot8 .sla) .a 8 s

/-- `SRA B` (R445). -/
def exec_sra_b (s : State) : Out := updReg (rot8 .sra) .b 8 s

/-- `SRA C` (R445). -/
def exec_sra_c (s : State) : Out := updReg (rot8 .sra) .c 8 s

/-- `SRA D` (R445). -/
def exec_sra_d (s : State) : Out := updReg (rot8 .sra) .d 8 s

/-- `SRA E` (R445). -/
def exec_sra_e (s : State) : Out := updReg (rot8 .sra) .e 8 s

/-- `SRA H` (R445). -/
def exec_sra_h (s : State) : Out := updReg (rot8 .sra) .h 8 s

/-- `SRA L` (R445). -/
def exec_sra_l (s : State) : Out := updReg (rot8 .sra) .l 8 s

/-- `SRA (HL)` (R446). -/
def exec_sra_atHL (s : State) : Out := updMem 0xCB (rot8 .sra) 16 s

/-- `SRA A` (R445). -/
def exec_sra_a (s : State) : Out := updReg (rot8 .sra) .a 8 s

/-- `SWAP B` (R447). -/
def exec_swap_b (s : State) : Out := updReg (rot8 .swap) .b 8 s

/-- `SWAP C` (R447). -/
def exec_swap_c (s : State) : Out := updReg (rot8 .swap) .c 8 s

/-- `SWAP D` (R447). -/
def exec_swap_d (s : State) : Out := updReg (rot8 .swap) .d 8 s

/-- `SWAP E` (R447). -/
def exec_swap_e (s : State) : Out := updReg (rot8 .swap) .e 8 s

/-- `SWAP H` (R447). -/
def exec_swap_h (s : State) : Out := updReg (rot8 .swap) .h 8 s

/-- `SWAP L` (R447). -/
def exec_swap_l (s : State) : Out := updReg (rot8 .swap) .l 8 s

/-- `SWAP (HL)` (R448). -/
def exec_swap_atHL (s : State) : Out := updMem 0xCB (rot8 .swap) 16 s

/-- `SWAP A` (R447). -/
def exec_swap_a (s : State) : Out := updReg (rot8 .swap) .a 8 s

/-- `SRL B` (R449). -/
def exec_srl_b (s : State) : Out := updReg (rot8 .srl) .b 8 s

/-- `SRL C` (R449). -/
def exec_srl_c (s : State) : Out := updReg (rot8 .srl) .c 8 s

/-- `SRL D` (R449). -/
def exec_srl_d (s : State) : Out := updReg (rot8 .srl) .d 8 s

/-- `SRL E` (R449). -/
def exec_srl_e (s : State) : Out := updReg (rot8 .srl) .e 8 s

/-- `SRL H` (R449). -/
def exec_srl_h (s : State) : Out := updReg (rot8 .srl) .h 8 s

/-- `SRL L` (R449). -/
def exec_srl_l (s : State) : Out := updReg (rot8 .srl) .l 8 s

/-- `SRL (HL)` (R450). -/
def exec_srl_atHL (s : State) : Out := updMem 0xCB (rot8 .srl) 16 s

/-- `SRL A` (R449). -/
def exec_srl_a (s : State) : Out := updReg (rot8 .srl) .a 8 s

/-- `BIT 0,B` (R451). -/
def exec_bit_0_b (s : State) : Out := bitReg .i0 .b s

/-- `BIT 0,C` (R451). -/
def exec_bit_0_c (s : State) : Out := bitReg .i0 .c s

/-- `BIT 0,D` (R451). -/
def exec_bit_0_d (s : State) : Out := bitReg .i0 .d s

/-- `BIT 0,E` (R451). -/
def exec_bit_0_e (s : State) : Out := bitReg .i0 .e s

/-- `BIT 0,H` (R451). -/
def exec_bit_0_h (s : State) : Out := bitReg .i0 .h s

/-- `BIT 0,L` (R451). -/
def exec_bit_0_l (s : State) : Out := bitReg .i0 .l s

/-- `BIT 0,(HL)` (R452). -/
def exec_bit_0_atHL (s : State) : Out := bitMem .i0 s

/-- `BIT 0,A` (R451). -/
def exec_bit_0_a (s : State) : Out := bitReg .i0 .a s

/-- `BIT 1,B` (R451). -/
def exec_bit_1_b (s : State) : Out := bitReg .i1 .b s

/-- `BIT 1,C` (R451). -/
def exec_bit_1_c (s : State) : Out := bitReg .i1 .c s

/-- `BIT 1,D` (R451). -/
def exec_bit_1_d (s : State) : Out := bitReg .i1 .d s

/-- `BIT 1,E` (R451). -/
def exec_bit_1_e (s : State) : Out := bitReg .i1 .e s

/-- `BIT 1,H` (R451). -/
def exec_bit_1_h (s : State) : Out := bitReg .i1 .h s

/-- `BIT 1,L` (R451). -/
def exec_bit_1_l (s : State) : Out := bitReg .i1 .l s

/-- `BIT 1,(HL)` (R452). -/
def exec_bit_1_atHL (s : State) : Out := bitMem .i1 s

/-- `BIT 1,A` (R451). -/
def exec_bit_1_a (s : State) : Out := bitReg .i1 .a s

/-- `BIT 2,B` (R451). -/
def exec_bit_2_b (s : State) : Out := bitReg .i2 .b s

/-- `BIT 2,C` (R451). -/
def exec_bit_2_c (s : State) : Out := bitReg .i2 .c s

/-- `BIT 2,D` (R451). -/
def exec_bit_2_d (s : State) : Out := bitReg .i2 .d s

/-- `BIT 2,E` (R451). -/
def exec_bit_2_e (s : State) : Out := bitReg .i2 .e s

/-- `BIT 2,H` (R451). -/
def exec_bit_2_h (s : State) : Out := bitReg .i2 .h s

/-- `BIT 2,L` (R451). -/
def exec_bit_2_l (s : State) : Out := bitReg .i2 .l s

/-- `BIT 2,(HL)` (R452). -/
def exec_bit_2_atHL (s : State) : Out := bitMem .i2 s

/-- `BIT 2,A` (R451). -/
def exec_bit_2_a (s : State) : Out := bitReg .i2 .a s

/-- `BIT 3,B` (R451). -/
def exec_bit_3_b (s : State) : Out := bitReg .i3 .b s

/-- `BIT 3,C` (R451). -/
def exec_bit_3_c (s : State) : Out := bitReg .i3 .c s

/-- `BIT 3,D` (R451). -/
def exec_bit_3_d (s : State) : Out := bitReg .i3 .d s

/-- `BIT 3,E` (R451). -/
def exec_bit_3_e (s : State) : Out := bitReg .i3 .e s

/-- `BIT 3,H` (R451). -/
def exec_bit_3_h (s : State) : Out := bitReg .i3 .h s

/-- `BIT 3,L` (R451). -/
def exec_bit_3_l (s : State) : Out := bitReg .i3 .l s

/-- `BIT 3,(HL)` (R452). -/
def exec_bit_3_atHL (s : State) : Out := bitMem .i3 s

/-- `BIT 3,A` (R451). -/
def exec_bit_3_a (s : State) : Out := bitReg .i3 .a s

/-- `BIT 4,B` (R451). -/
def exec_bit_4_b (s : State) : Out := bitReg .i4 .b s

/-- `BIT 4,C` (R451). -/
def exec_bit_4_c (s : State) : Out := bitReg .i4 .c s

/-- `BIT 4,D` (R451). -/
def exec_bit_4_d (s : State) : Out := bitReg .i4 .d s

/-- `BIT 4,E` (R451). -/
def exec_bit_4_e (s : State) : Out := bitReg .i4 .e s

/-- `BIT 4,H` (R451). -/
def exec_bit_4_h (s : State) : Out := bitReg .i4 .h s

/-- `BIT 4,L` (R451). -/
def exec_bit_4_l (s : State) : Out := bitReg .i4 .l s

/-- `BIT 4,(HL)` (R452). -/
def exec_bit_4_atHL (s : State) : Out := bitMem .i4 s

/-- `BIT 4,A` (R451). -/
def exec_bit_4_a (s : State) : Out := bitReg .i4 .a s

/-- `BIT 5,B` (R451). -/
def exec_bit_5_b (s : State) : Out := bitReg .i5 .b s

/-- `BIT 5,C` (R451). -/
def exec_bit_5_c (s : State) : Out := bitReg .i5 .c s

/-- `BIT 5,D` (R451). -/
def exec_bit_5_d (s : State) : Out := bitReg .i5 .d s

/-- `BIT 5,E` (R451). -/
def exec_bit_5_e (s : State) : Out := bitReg .i5 .e s

/-- `BIT 5,H` (R451). -/
def exec_bit_5_h (s : State) : Out := bitReg .i5 .h s

/-- `BIT 5,L` (R451). -/
def exec_bit_5_l (s : State) : Out := bitReg .i5 .l s

/-- `BIT 5,(HL)` (R452). -/
def exec_bit_5_atHL (s : State) : Out := bitMem .i5 s

/-- `BIT 5,A` (R451). -/
def exec_bit_5_a (s : State) : Out := bitReg .i5 .a s

/-- `BIT 6,B` (R451). -/
def exec_bit_6_b (s : State) : Out := bitReg .i6 .b s

/-- `BIT 6,C` (R451). -/
def exec_bit_6_c (s : State) : Out := bitReg .i6 .c s

/-- `BIT 6,D` (R451). -/
def exec_bit_6_d (s : State) : Out := bitReg .i6 .d s

/-- `BIT 6,E` (R451). -/
def exec_bit_6_e (s : State) : Out := bitReg .i6 .e s

/-- `BIT 6,H` (R451). -/
def exec_bit_6_h (s : State) : Out := bitReg .i6 .h s

/-- `BIT 6,L` (R451). -/
def exec_bit_6_l (s : State) : Out := bitReg .i6 .l s

/-- `BIT 6,(HL)` (R452). -/
def exec_bit_6_atHL (s : State) : Out := bitMem .i6 s

/-- `BIT 6,A` (R451). -/
def exec_bit_6_a (s : State) : Out := bitReg .i6 .a s

/-- `BIT 7,B` (R451). -/
def exec_bit_7_b (s : State) : Out := bitReg .i7 .b s

/-- `BIT 7,C` (R451). -/
def exec_bit_7_c (s : State) : Out := bitReg .i7 .c s

/-- `BIT 7,D` (R451). -/
def exec_bit_7_d (s : State) : Out := bitReg .i7 .d s

/-- `BIT 7,E` (R451). -/
def exec_bit_7_e (s : State) : Out := bitReg .i7 .e s

/-- `BIT 7,H` (R451). -/
def exec_bit_7_h (s : State) : Out := bitReg .i7 .h s

/-- `BIT 7,L` (R451). -/
def exec_bit_7_l (s : State) : Out := bitReg .i7 .l s

/-- `BIT 7,(HL)` (R452). -/
def exec_bit_7_atHL (s : State) : Out := bitMem .i7 s

/-- `BIT 7,A` (R451). -/
def exec_bit_7_a (s : State) : Out := bitReg .i7 .a s

/-- `RES 0,B` (R453). -/
def exec_res_0_b (s : State) : Out := mapReg (res8 .i0) .b s

/-- `RES 0,C` (R453). -/
def exec_res_0_c (s : State) : Out := mapReg (res8 .i0) .c s

/-- `RES 0,D` (R453). -/
def exec_res_0_d (s : State) : Out := mapReg (res8 .i0) .d s

/-- `RES 0,E` (R453). -/
def exec_res_0_e (s : State) : Out := mapReg (res8 .i0) .e s

/-- `RES 0,H` (R453). -/
def exec_res_0_h (s : State) : Out := mapReg (res8 .i0) .h s

/-- `RES 0,L` (R453). -/
def exec_res_0_l (s : State) : Out := mapReg (res8 .i0) .l s

/-- `RES 0,(HL)` (R454). -/
def exec_res_0_atHL (s : State) : Out := mapMem 0xCB (res8 .i0) s

/-- `RES 0,A` (R453). -/
def exec_res_0_a (s : State) : Out := mapReg (res8 .i0) .a s

/-- `RES 1,B` (R453). -/
def exec_res_1_b (s : State) : Out := mapReg (res8 .i1) .b s

/-- `RES 1,C` (R453). -/
def exec_res_1_c (s : State) : Out := mapReg (res8 .i1) .c s

/-- `RES 1,D` (R453). -/
def exec_res_1_d (s : State) : Out := mapReg (res8 .i1) .d s

/-- `RES 1,E` (R453). -/
def exec_res_1_e (s : State) : Out := mapReg (res8 .i1) .e s

/-- `RES 1,H` (R453). -/
def exec_res_1_h (s : State) : Out := mapReg (res8 .i1) .h s

/-- `RES 1,L` (R453). -/
def exec_res_1_l (s : State) : Out := mapReg (res8 .i1) .l s

/-- `RES 1,(HL)` (R454). -/
def exec_res_1_atHL (s : State) : Out := mapMem 0xCB (res8 .i1) s

/-- `RES 1,A` (R453). -/
def exec_res_1_a (s : State) : Out := mapReg (res8 .i1) .a s

/-- `RES 2,B` (R453). -/
def exec_res_2_b (s : State) : Out := mapReg (res8 .i2) .b s

/-- `RES 2,C` (R453). -/
def exec_res_2_c (s : State) : Out := mapReg (res8 .i2) .c s

/-- `RES 2,D` (R453). -/
def exec_res_2_d (s : State) : Out := mapReg (res8 .i2) .d s

/-- `RES 2,E` (R453). -/
def exec_res_2_e (s : State) : Out := mapReg (res8 .i2) .e s

/-- `RES 2,H` (R453). -/
def exec_res_2_h (s : State) : Out := mapReg (res8 .i2) .h s

/-- `RES 2,L` (R453). -/
def exec_res_2_l (s : State) : Out := mapReg (res8 .i2) .l s

/-- `RES 2,(HL)` (R454). -/
def exec_res_2_atHL (s : State) : Out := mapMem 0xCB (res8 .i2) s

/-- `RES 2,A` (R453). -/
def exec_res_2_a (s : State) : Out := mapReg (res8 .i2) .a s

/-- `RES 3,B` (R453). -/
def exec_res_3_b (s : State) : Out := mapReg (res8 .i3) .b s

/-- `RES 3,C` (R453). -/
def exec_res_3_c (s : State) : Out := mapReg (res8 .i3) .c s

/-- `RES 3,D` (R453). -/
def exec_res_3_d (s : State) : Out := mapReg (res8 .i3) .d s

/-- `RES 3,E` (R453). -/
def exec_res_3_e (s : State) : Out := mapReg (res8 .i3) .e s

/-- `RES 3,H` (R453). -/
def exec_res_3_h (s : State) : Out := mapReg (res8 .i3) .h s

/-- `RES 3,L` (R453). -/
def exec_res_3_l (s : State) : Out := mapReg (res8 .i3) .l s

/-- `RES 3,(HL)` (R454). -/
def exec_res_3_atHL (s : State) : Out := mapMem 0xCB (res8 .i3) s

/-- `RES 3,A` (R453). -/
def exec_res_3_a (s : State) : Out := mapReg (res8 .i3) .a s

/-- `RES 4,B` (R453). -/
def exec_res_4_b (s : State) : Out := mapReg (res8 .i4) .b s

/-- `RES 4,C` (R453). -/
def exec_res_4_c (s : State) : Out := mapReg (res8 .i4) .c s

/-- `RES 4,D` (R453). -/
def exec_res_4_d (s : State) : Out := mapReg (res8 .i4) .d s

/-- `RES 4,E` (R453). -/
def exec_res_4_e (s : State) : Out := mapReg (res8 .i4) .e s

/-- `RES 4,H` (R453). -/
def exec_res_4_h (s : State) : Out := mapReg (res8 .i4) .h s

/-- `RES 4,L` (R453). -/
def exec_res_4_l (s : State) : Out := mapReg (res8 .i4) .l s

/-- `RES 4,(HL)` (R454). -/
def exec_res_4_atHL (s : State) : Out := mapMem 0xCB (res8 .i4) s

/-- `RES 4,A` (R453). -/
def exec_res_4_a (s : State) : Out := mapReg (res8 .i4) .a s

/-- `RES 5,B` (R453). -/
def exec_res_5_b (s : State) : Out := mapReg (res8 .i5) .b s

/-- `RES 5,C` (R453). -/
def exec_res_5_c (s : State) : Out := mapReg (res8 .i5) .c s

/-- `RES 5,D` (R453). -/
def exec_res_5_d (s : State) : Out := mapReg (res8 .i5) .d s

/-- `RES 5,E` (R453). -/
def exec_res_5_e (s : State) : Out := mapReg (res8 .i5) .e s

/-- `RES 5,H` (R453). -/
def exec_res_5_h (s : State) : Out := mapReg (res8 .i5) .h s

/-- `RES 5,L` (R453). -/
def exec_res_5_l (s : State) : Out := mapReg (res8 .i5) .l s

/-- `RES 5,(HL)` (R454). -/
def exec_res_5_atHL (s : State) : Out := mapMem 0xCB (res8 .i5) s

/-- `RES 5,A` (R453). -/
def exec_res_5_a (s : State) : Out := mapReg (res8 .i5) .a s

/-- `RES 6,B` (R453). -/
def exec_res_6_b (s : State) : Out := mapReg (res8 .i6) .b s

/-- `RES 6,C` (R453). -/
def exec_res_6_c (s : State) : Out := mapReg (res8 .i6) .c s

/-- `RES 6,D` (R453). -/
def exec_res_6_d (s : State) : Out := mapReg (res8 .i6) .d s

/-- `RES 6,E` (R453). -/
def exec_res_6_e (s : State) : Out := mapReg (res8 .i6) .e s

/-- `RES 6,H` (R453). -/
def exec_res_6_h (s : State) : Out := mapReg (res8 .i6) .h s

/-- `RES 6,L` (R453). -/
def exec_res_6_l (s : State) : Out := mapReg (res8 .i6) .l s

/-- `RES 6,(HL)` (R454). -/
def exec_res_6_atHL (s : State) : Out := mapMem 0xCB (res8 .i6) s

/-- `RES 6,A` (R453). -/
def exec_res_6_a (s : State) : Out := mapReg (res8 .i6) .a s

/-- `RES 7,B` (R453). -/
def exec_res_7_b (s : State) : Out := mapReg (res8 .i7) .b s

/-- `RES 7,C` (R453). -/
def exec_res_7_c (s : State) : Out := mapReg (res8 .i7) .c s

/-- `RES 7,D` (R453). -/
def exec_res_7_d (s : State) : Out := mapReg (res8 .i7) .d s

/-- `RES 7,E` (R453). -/
def exec_res_7_e (s : State) : Out := mapReg (res8 .i7) .e s

/-- `RES 7,H` (R453). -/
def exec_res_7_h (s : State) : Out := mapReg (res8 .i7) .h s

/-- `RES 7,L` (R453). -/
def exec_res_7_l (s : State) : Out := mapReg (res8 .i7) .l s

/-- `RES 7,(HL)` (R454). -/
def exec_res_7_atHL (s : State) : Out := mapMem 0xCB (res8 .i7) s

/-- `RES 7,A` (R453). -/
def exec_res_7_a (s : State) : Out := mapReg (res8 .i7) .a s

/-- `SET 0,B` (R455). -/
def exec_set_0_b (s : State) : Out := mapReg (set8 .i0) .b s

/-- `SET 0,C` (R455). -/
def exec_set_0_c (s : State) : Out := mapReg (set8 .i0) .c s

/-- `SET 0,D` (R455). -/
def exec_set_0_d (s : State) : Out := mapReg (set8 .i0) .d s

/-- `SET 0,E` (R455). -/
def exec_set_0_e (s : State) : Out := mapReg (set8 .i0) .e s

/-- `SET 0,H` (R455). -/
def exec_set_0_h (s : State) : Out := mapReg (set8 .i0) .h s

/-- `SET 0,L` (R455). -/
def exec_set_0_l (s : State) : Out := mapReg (set8 .i0) .l s

/-- `SET 0,(HL)` (R456). -/
def exec_set_0_atHL (s : State) : Out := mapMem 0xCB (set8 .i0) s

/-- `SET 0,A` (R455). -/
def exec_set_0_a (s : State) : Out := mapReg (set8 .i0) .a s

/-- `SET 1,B` (R455). -/
def exec_set_1_b (s : State) : Out := mapReg (set8 .i1) .b s

/-- `SET 1,C` (R455). -/
def exec_set_1_c (s : State) : Out := mapReg (set8 .i1) .c s

/-- `SET 1,D` (R455). -/
def exec_set_1_d (s : State) : Out := mapReg (set8 .i1) .d s

/-- `SET 1,E` (R455). -/
def exec_set_1_e (s : State) : Out := mapReg (set8 .i1) .e s

/-- `SET 1,H` (R455). -/
def exec_set_1_h (s : State) : Out := mapReg (set8 .i1) .h s

/-- `SET 1,L` (R455). -/
def exec_set_1_l (s : State) : Out := mapReg (set8 .i1) .l s

/-- `SET 1,(HL)` (R456). -/
def exec_set_1_atHL (s : State) : Out := mapMem 0xCB (set8 .i1) s

/-- `SET 1,A` (R455). -/
def exec_set_1_a (s : State) : Out := mapReg (set8 .i1) .a s

/-- `SET 2,B` (R455). -/
def exec_set_2_b (s : State) : Out := mapReg (set8 .i2) .b s

/-- `SET 2,C` (R455). -/
def exec_set_2_c (s : State) : Out := mapReg (set8 .i2) .c s

/-- `SET 2,D` (R455). -/
def exec_set_2_d (s : State) : Out := mapReg (set8 .i2) .d s

/-- `SET 2,E` (R455). -/
def exec_set_2_e (s : State) : Out := mapReg (set8 .i2) .e s

/-- `SET 2,H` (R455). -/
def exec_set_2_h (s : State) : Out := mapReg (set8 .i2) .h s

/-- `SET 2,L` (R455). -/
def exec_set_2_l (s : State) : Out := mapReg (set8 .i2) .l s

/-- `SET 2,(HL)` (R456). -/
def exec_set_2_atHL (s : State) : Out := mapMem 0xCB (set8 .i2) s

/-- `SET 2,A` (R455). -/
def exec_set_2_a (s : State) : Out := mapReg (set8 .i2) .a s

/-- `SET 3,B` (R455). -/
def exec_set_3_b (s : State) : Out := mapReg (set8 .i3) .b s

/-- `SET 3,C` (R455). -/
def exec_set_3_c (s : State) : Out := mapReg (set8 .i3) .c s

/-- `SET 3,D` (R455). -/
def exec_set_3_d (s : State) : Out := mapReg (set8 .i3) .d s

/-- `SET 3,E` (R455). -/
def exec_set_3_e (s : State) : Out := mapReg (set8 .i3) .e s

/-- `SET 3,H` (R455). -/
def exec_set_3_h (s : State) : Out := mapReg (set8 .i3) .h s

/-- `SET 3,L` (R455). -/
def exec_set_3_l (s : State) : Out := mapReg (set8 .i3) .l s

/-- `SET 3,(HL)` (R456). -/
def exec_set_3_atHL (s : State) : Out := mapMem 0xCB (set8 .i3) s

/-- `SET 3,A` (R455). -/
def exec_set_3_a (s : State) : Out := mapReg (set8 .i3) .a s

/-- `SET 4,B` (R455). -/
def exec_set_4_b (s : State) : Out := mapReg (set8 .i4) .b s

/-- `SET 4,C` (R455). -/
def exec_set_4_c (s : State) : Out := mapReg (set8 .i4) .c s

/-- `SET 4,D` (R455). -/
def exec_set_4_d (s : State) : Out := mapReg (set8 .i4) .d s

/-- `SET 4,E` (R455). -/
def exec_set_4_e (s : State) : Out := mapReg (set8 .i4) .e s

/-- `SET 4,H` (R455). -/
def exec_set_4_h (s : State) : Out := mapReg (set8 .i4) .h s

/-- `SET 4,L` (R455). -/
def exec_set_4_l (s : State) : Out := mapReg (set8 .i4) .l s

/-- `SET 4,(HL)` (R456). -/
def exec_set_4_atHL (s : State) : Out := mapMem 0xCB (set8 .i4) s

/-- `SET 4,A` (R455). -/
def exec_set_4_a (s : State) : Out := mapReg (set8 .i4) .a s

/-- `SET 5,B` (R455). -/
def exec_set_5_b (s : State) : Out := mapReg (set8 .i5) .b s

/-- `SET 5,C` (R455). -/
def exec_set_5_c (s : State) : Out := mapReg (set8 .i5) .c s

/-- `SET 5,D` (R455). -/
def exec_set_5_d (s : State) : Out := mapReg (set8 .i5) .d s

/-- `SET 5,E` (R455). -/
def exec_set_5_e (s : State) : Out := mapReg (set8 .i5) .e s

/-- `SET 5,H` (R455). -/
def exec_set_5_h (s : State) : Out := mapReg (set8 .i5) .h s

/-- `SET 5,L` (R455). -/
def exec_set_5_l (s : State) : Out := mapReg (set8 .i5) .l s

/-- `SET 5,(HL)` (R456). -/
def exec_set_5_atHL (s : State) : Out := mapMem 0xCB (set8 .i5) s

/-- `SET 5,A` (R455). -/
def exec_set_5_a (s : State) : Out := mapReg (set8 .i5) .a s

/-- `SET 6,B` (R455). -/
def exec_set_6_b (s : State) : Out := mapReg (set8 .i6) .b s

/-- `SET 6,C` (R455). -/
def exec_set_6_c (s : State) : Out := mapReg (set8 .i6) .c s

/-- `SET 6,D` (R455). -/
def exec_set_6_d (s : State) : Out := mapReg (set8 .i6) .d s

/-- `SET 6,E` (R455). -/
def exec_set_6_e (s : State) : Out := mapReg (set8 .i6) .e s

/-- `SET 6,H` (R455). -/
def exec_set_6_h (s : State) : Out := mapReg (set8 .i6) .h s

/-- `SET 6,L` (R455). -/
def exec_set_6_l (s : State) : Out := mapReg (set8 .i6) .l s

/-- `SET 6,(HL)` (R456). -/
def exec_set_6_atHL (s : State) : Out := mapMem 0xCB (set8 .i6) s

/-- `SET 6,A` (R455). -/
def exec_set_6_a (s : State) : Out := mapReg (set8 .i6) .a s

/-- `SET 7,B` (R455). -/
def exec_set_7_b (s : State) : Out := mapReg (set8 .i7) .b s

/-- `SET 7,C` (R455). -/
def exec_set_7_c (s : State) : Out := mapReg (set8 .i7) .c s

/-- `SET 7,D` (R455). -/
def exec_set_7_d (s : State) : Out := mapReg (set8 .i7) .d s

/-- `SET 7,E` (R455). -/
def exec_set_7_e (s : State) : Out := mapReg (set8 .i7) .e s

/-- `SET 7,H` (R455). -/
def exec_set_7_h (s : State) : Out := mapReg (set8 .i7) .h s

/-- `SET 7,L` (R455). -/
def exec_set_7_l (s : State) : Out := mapReg (set8 .i7) .l s

/-- `SET 7,(HL)` (R456). -/
def exec_set_7_atHL (s : State) : Out := mapMem 0xCB (set8 .i7) s

/-- `SET 7,A` (R455). -/
def exec_set_7_a (s : State) : Out := mapReg (set8 .i7) .a s

end Sys2Proof.Machine
end

