-- ==== Sys2Proof/Machine/System.lean ====
section
/-! DEFINITION. System and CPU control instructions (`spec/45_system.md`): the meaning of each instruction of the family. -/

namespace Sys2Proof.Machine

/-- `NOP` (R500). -/
def exec_nop (s : State) : Out := done 4 s

/-- `STOP` (R510). -/
def exec_stop (_b : Byte) (s : State) : Out :=
  done 4 (let t := s.clearCounter; { t with cpu := { t.cpu with mode := .stopped } })

/-- `HALT` (R507). -/
def exec_halt (s : State) : Out := done 4
    (if s.cpu.ime = false ∧ s.pending = true then { s with cpu := { s.cpu with haltBug := true } }
      else { s with cpu := { s.cpu with mode := .halted } })

/-- `PREFIX CB` (R501): the second byte is fetched and its 0xCB-page instruction is executed, in the same step. -/
def exec_prefix_cb (s : State) : Out := cbPage s.fetch8.1 s.fetch8.2

/-- `ILLEGAL 0xD3` (R502). -/
def exec_illegal_d3 (s : State) : Out := illegalOpcode 0xD3 s

/-- `ILLEGAL 0xDB` (R502). -/
def exec_illegal_db (s : State) : Out := illegalOpcode 0xDB s

/-- `ILLEGAL 0xDD` (R502). -/
def exec_illegal_dd (s : State) : Out := illegalOpcode 0xDD s

/-- `ILLEGAL 0xE3` (R502). -/
def exec_illegal_e3 (s : State) : Out := illegalOpcode 0xE3 s

/-- `ILLEGAL 0xE4` (R502). -/
def exec_illegal_e4 (s : State) : Out := illegalOpcode 0xE4 s

/-- `ILLEGAL 0xEB` (R502). -/
def exec_illegal_eb (s : State) : Out := illegalOpcode 0xEB s

/-- `ILLEGAL 0xEC` (R502). -/
def exec_illegal_ec (s : State) : Out := illegalOpcode 0xEC s

/-- `ILLEGAL 0xED` (R502). -/
def exec_illegal_ed (s : State) : Out := illegalOpcode 0xED s

/-- `DI` (R503). -/
def exec_di (s : State) : Out := done 4 { s with cpu := { s.cpu with ime := false, eiDelay := 0 } }

/-- `ILLEGAL 0xF4` (R502). -/
def exec_illegal_f4 (s : State) : Out := illegalOpcode 0xF4 s

/-- `EI` (R506). -/
def exec_ei (s : State) : Out :=
  done 4 (if s.cpu.ime = false ∧ s.cpu.eiDelay = 0 then { s with cpu := { s.cpu with eiDelay := 2 } } else s)

/-- `ILLEGAL 0xFC` (R502). -/
def exec_illegal_fc (s : State) : Out := illegalOpcode 0xFC s

/-- `ILLEGAL 0xFD` (R502). -/
def exec_illegal_fd (s : State) : Out := illegalOpcode 0xFD s

end Sys2Proof.Machine
end

