-- ==== Sys2Proof/Machine/FetchWord.lean ====
section
/-! DEFINITION. Placing an instruction where the next step fetches it: what `State.withFetchWord` of
`Sys2Proof/Machine/Step.lean` calls. It stands for the load of a program from outside the machine (log entry 2). -/

namespace Sys2Proof.Machine

/-- A loaded ROM-only cartridge of two banks (`spec/21_cartridge_mbc.md` R187, R205): vector L1 of
`95_test_vectors.md`. -/
def Cart.romOnly : Cart := { Cart.absent .loaded with romBanks := 2 }

/-- The physical address that a fetch of `a` reads, outside OAM DMA, if it reads a byte of memory. -/
def State.fetchPlace (s : State) (a : Addr) : Option Nat :=
  match regionOf a with
  | .rom => some (romBase + s.cart.romOffset a)
  | .vram => if s.ppu.vramBlocked then none else some a.toNat
  | .cartRam =>
    match s.cart.target a with
    | .ram p => some p
    | _ => none
  | .wram => some a.toNat
  | .echo => some (a.toNat - 0x2000)
  | .oam => if s.ppu.oamBlocked then none else some a.toNat
  | .hram => some a.toNat
  | _ => none

/-- The places of the three bytes from `a` on. -/
def State.fetchPlaces (s : State) (a : Addr) : Option (Nat × Nat × Nat) :=
  match s.fetchPlace a, s.fetchPlace (a + 1), s.fetchPlace (a + 2) with
  | some p0, some p1, some p2 => some (p0, p1, p2)
  | _, _, _ => none

/-- `s` with everything removed that would keep the next step from fetching: a cartridge is loaded, no fault, the CPU
runs, the halt bug is not armed, no OAM DMA holds the bus, and no interrupt would be taken first. -/
def State.readyToFetch (s : State) : State :=
  let s1 : State :=
    { s with
      cart := if s.cart.status = .loaded then s.cart else Cart.romOnly
      fault := none
      cpu := { s.cpu with mode := .running, haltBug := false }
      dma := { s.dma with remaining := 0 } }
  if s1.joypadSample.pending then { s1 with cpu := { s1.cpu with ime := false } } else s1

/-- Store three bytes where a fetch at PC reads them, or at 0xC000, with PC moved there, if one of the three addresses
at PC is not memory. -/
def State.placeAtPc (s : State) (b0 b1 b2 : Byte) : State :=
  match s.fetchPlaces s.cpu.pc with
  | some (p0, p1, p2) => ((s.setByte p0 b0).setByte p1 b1).setByte p2 b2
  | none => (((s.setPc 0xC000).setByte 0xC000 b0).setByte 0xC001 b1).setByte 0xC002 b2

/-- The bytes of `tableBytes`, with 0 after them, stored where the next step fetches. -/
def State.withBytes (s : State) (bytes : List Byte) : State :=
  s.readyToFetch.placeAtPc (bytes.getD 0 0) (bytes.getD 1 0) (bytes.getD 2 0)

end Sys2Proof.Machine
end

