-- ==== Sys2Proof/Machine/Step.lean ====
section
/-! DEFINITION. The step (`spec/60_exceptions.md` rule R640) and the placing of an instruction where it fetches. -/

namespace Sys2Proof.Machine

/-- The part of a step that fetches, decodes and executes an instruction: `s0` is the state at the start of the step,
`s1` the state after the joypad sample (R640). -/
def stepInstr (s0 s1 : State) : Host.Outcome State Fault Refusal :=
  let f := s1.fetchInstr
  match decode f.1 with
  | .error _ => .fault .undecoded
  | .ok i =>
    match exec i f.2 with
    | .next t => .next (endInstr s0 t)
    | .fault r => .fault r
    | .refused r => .refused r

/-- `Step()` (R640). Without a loaded cartridge (`80_host_interface.md` R782) and with a fault set
(`10_state.md` R41) no step happens. -/
def step (s : State) : Host.Outcome State Fault Refusal :=
  if s.idle then .next s
  else
    let s0 := s.beginStep
    let s1 := s0.joypadSample
    match s1.cpu.mode with
    | .stopped => .next s1.stoppedStep
    | .halted => .next s1.haltedStep
    | .running => if s1.interruptTaken then .next (dispatchStep s0 s1) else stepInstr s0 s1

/-- `s` with the instruction whose bits are `w` stored where the next step fetches it, numbered as
`spec/opcode_table.json` numbers them (log entries 2 and 12). -/
def State.withFetchWord (s : State) (nbits w : Nat) : State := s.withBytes (tableBytes nbits w)

end Sys2Proof.Machine
end

