-- ==== Sys2Proof/Machine/Loader.lean ====
section
/-! DEFINITION. The header, the loader's checks and the reset that a successful `loadGame` makes
(`spec/21_cartridge_mbc.md` R180 to R191, `spec/70_reset_and_hazards.md` R730 to R733). -/

namespace Sys2Proof.Machine

/-! ## The file and its header -/

/-- The bytes of the file given to `loadGame` (R181): their number, and the bytes by file offset. -/
structure RomImage where
  len : Nat
  bytes : Memory
deriving DecidableEq, Repr

/-- `ROM[i]`. -/
def RomImage.at (f : RomImage) (i : Nat) : Byte := f.bytes.read i

/-- The header record (R183). -/
def RomImage.header (f : RomImage) : Header where
  title := (List.range 16).map fun i => f.at (0x0134 + i)
  typeCode := f.at 0x0147
  romCode := f.at 0x0148
  ramCode := f.at 0x0149
  destination := f.at 0x014A
  headerChecksum := f.at 0x014D
  globalChecksum := word16 (f.at 0x014E) (f.at 0x014F)

/-- The checksum loop of R184 over the 25 bytes 0x0134 to 0x014C. -/
def RomImage.checksum (f : RomImage) : Byte := (List.range 25).foldl (fun x i => x - f.at (0x0134 + i) - 1) 0

/-- R185: the size in bytes that a ROM size code declares; `none` for a code that is a parse error. -/
def romSizeOf (code : Byte) : Option Nat := if code.toNat ≤ 8 then some (32768 <<< code.toNat) else none

/-- R186: the size in bytes that a RAM size code declares. -/
def ramSizeOf (code : Byte) : Option Nat :=
  match code.toNat with
  | 0 => some 0
  | 1 => some 2048
  | 2 => some 8192
  | 3 => some 32768
  | 4 => some 131072
  | 5 => some 65536
  | _ => none

/-- The variants of R187. -/
inductive Variant where
  | romOnly | mbc1 | mbc2 | mbc3 | mbc5
deriving DecidableEq, Repr

/-- The variant of a set of MBC registers (`10_state.md` R51). -/
def Mbc.variant : Mbc → Variant
  | .romOnly => .romOnly
  | .mbc1 _ => .mbc1
  | .mbc2 _ => .mbc2
  | .mbc3 _ => .mbc3
  | .mbc5 _ => .mbc5

/-- A row of the table of R187. -/
structure CartType where
  variant : Variant
  battery : Bool
  rtc : Bool
  rumble : Bool
deriving DecidableEq, Repr

/-- R187: the supported cartridge type codes. -/
def cartTypeOf (code : Byte) : Option CartType :=
  match code.toNat with
  | 0x00 => some ⟨.romOnly, false, false, false⟩
  | 0x01 => some ⟨.mbc1, false, false, false⟩
  | 0x02 => some ⟨.mbc1, false, false, false⟩
  | 0x03 => some ⟨.mbc1, true, false, false⟩
  | 0x05 => some ⟨.mbc2, false, false, false⟩
  | 0x06 => some ⟨.mbc2, true, false, false⟩
  | 0x08 => some ⟨.romOnly, false, false, false⟩
  | 0x09 => some ⟨.romOnly, true, false, false⟩
  | 0x0F => some ⟨.mbc3, true, true, false⟩
  | 0x10 => some ⟨.mbc3, true, true, false⟩
  | 0x11 => some ⟨.mbc3, false, false, false⟩
  | 0x12 => some ⟨.mbc3, false, false, false⟩
  | 0x13 => some ⟨.mbc3, true, false, false⟩
  | 0x19 => some ⟨.mbc5, false, false, false⟩
  | 0x1A => some ⟨.mbc5, false, false, false⟩
  | 0x1B => some ⟨.mbc5, true, false, false⟩
  | 0x1C => some ⟨.mbc5, false, false, true⟩
  | 0x1D => some ⟨.mbc5, false, false, true⟩
  | 0x1E => some ⟨.mbc5, true, false, true⟩
  | _ => none

/-- R188: the most ROM banks a variant addresses. -/
def Variant.maxBanks : Variant → Nat
  | .romOnly => 2
  | .mbc1 => 128
  | .mbc2 => 16
  | .mbc3 => 128
  | .mbc5 => 512

/-- R188: the most bytes of RAM a variant addresses. MBC2's are built in (R186). -/
def Variant.maxRam : Variant → Nat
  | .romOnly => 8192
  | .mbc1 => 32768
  | .mbc2 => 512
  | .mbc3 => 32768
  | .mbc5 => 131072

/-- `ram_size` (R186): the built-in 512 cells on MBC2 whatever the code (log entry 18), the code's size on the others. -/
def Variant.ramSize (v : Variant) (code : Byte) : Option Nat :=
  match v with
  | .mbc2 => some 512
  | _ => ramSizeOf code

/-- The MBC registers at power-on (`10_state.md` R52, R224). -/
def Variant.powerOn : Variant → Mbc
  | .romOnly => .romOnly
  | .mbc1 => .mbc1 { ramEnable := false, bank1 := 1, bank2 := 0, mode := false }
  | .mbc2 => .mbc2 { ramEnable := false, romBank := 1 }
  | .mbc3 =>
    .mbc3 { ramEnable := false, romBank := 1, sel := 0, latchPrev := 0xFF, live := Rtc.zero, latched := Rtc.zero }
  | .mbc5 => .mbc5 { ramEnable := false, romBank := 1, ramBank := 0, motor := false }

/-! ## The checks (R182) -/

/-- The loader's checks in the order of R182, on a file that could be opened: the cartridge, or the first failure. -/
def RomImage.parse (f : RomImage) : Except CartStatus Cart :=
  if Config.romLimit < f.len then .error .romTooBig
  else
    match (if f.len < 0x0150 ∨ f.checksum ≠ f.at 0x014D then none else romSizeOf (f.at 0x0148)) with
    | none => .error .romParseError
    | some size =>
      if f.len ≠ size then .error .romSizeMismatch
      else
        match cartTypeOf (f.at 0x0147) with
        | none => .error .romUnsupportedMbc
        | some t =>
          if t.variant.maxBanks < size / Config.romBankSize then .error .romTooBig
          else
            match t.variant.ramSize (f.at 0x0149) with
            | none => .error .ramSizeUnsupported
            | some ram =>
              if t.variant.maxRam < ram then .error .ramSizeUnsupported
              else
                .ok
                  { status := .loaded
                    header := f.header
                    romBanks := f.len / Config.romBankSize
                    ramSize := ram
                    battery := t.battery
                    rtc := t.rtc
                    rumble := t.rumble
                    mbc := t.variant.powerOn }

/-! ## The memory after a load (R189, R731, R733) -/

/-- The physical addresses of WRAM, VRAM, OAM and HRAM (`10_state.md` R42). -/
def internalAddr (a : Nat) : Bool :=
  (decide (0x8000 ≤ a) && decide (a < 0xA000)) || (decide (0xC000 ≤ a) && decide (a < 0xE000))
    || (decide (0xFE00 ≤ a) && decide (a < 0xFEA0)) || (decide (0xFF80 ≤ a) && decide (a < 0xFFFF))

/-- Add to `m` the bytes that `src` lists at the offsets that `keep` admits, each at `base +` its offset and passed
through `f`. -/
def Memory.place (base : Nat) (keep : Nat → Bool) (f : Byte → Byte) (src : Memory) (m : Memory) : Memory :=
  src.foldl (fun acc c => if keep c.1 then acc.write (base + c.1) (f (src.read c.1)) else acc) m

/-- What the cartridge's RAM keeps of a byte: the low four bits on MBC2 (R210). -/
def Mbc.cellMask (m : Mbc) (v : Byte) : Byte :=
  match m with
  | .mbc2 _ => v &&& 0x0F
  | _ => v

/-- The memory after a load: the ROM image, INIT_CART_RAM by RAM offset, INIT_MEM by bus address. -/
def loadedMemory (f : RomImage) (c : Cart) (initMem initCartRam : Memory) : Memory :=
  Memory.place romBase (fun i => decide (i < f.len)) id f.bytes
    (Memory.place cartRamBase (fun i => decide (i < c.ramSize)) c.mbc.cellMask initCartRam
      (Memory.place 0 internalAddr id initMem []))

/-! ## `loadGame` -/

/-- The joypad after a load (R731 step 5): the host's keys, P1 bits 5..4 = 00, the lines they give. -/
def Joypad.afterLoad (j : Joypad) : Joypad :=
  { keys := j.keys, sel := 0b00, linesPrev := ({ j with sel := 0b00 } : Joypad).lines }

/-- The reset of R731 with the cartridge `c` and the memory `m`. -/
def State.loaded (s : State) (c : Cart) (m : Memory) : State where
  cpu := Cpu.reset
  irq := Irq.reset
  timer := Timer.reset
  serial := Serial.reset
  joypad := s.joypad.afterLoad
  ppu := Ppu.reset
  dma := Dma.reset
  cart := c
  mem := m
  fault := none
  draws := s.draws
  info := StepInfo.none

/-- A failed load (R190, R730): no cartridge, `status` holds the failure; the CPU and the devices are as they were
(log entry 24). -/
def State.unloaded (s : State) (st : CartStatus) : State :=
  { s with cart := Cart.absent st, mem := s.mem.filter fun c => decide (c.1 < cartRamBase) }

/-- `loadGame(path)` (R180 to R190). `file` is `none` when the path cannot be opened. `initMem` is INIT_MEM by bus
address and `initCartRam` is INIT_CART_RAM by RAM offset (`00_scope.md` R7; log entry 3). -/
def State.loadGame (s : State) (file : Option RomImage) (initMem initCartRam : Memory) : CartStatus × State :=
  match file with
  | none => (.romFileNotReadable, s.unloaded .romFileNotReadable)
  | some f =>
    match f.parse with
    | .error st => (st, s.unloaded st)
    | .ok c => (.loaded, s.loaded c (loadedMemory f c initMem initCartRam))

end Sys2Proof.Machine
end

