-- ==== Sys2Proof/Machine/HostInterface.lean ====
section
/-! DEFINITION. What the host can do between two steps (`spec/80_host_interface.md` R780 to R792). `loadGame` is in
`Loader.lean`. -/

namespace Sys2Proof.Machine

/-! ## `doTick` (R781) -/

/-- What a call to `doTick` answers: the bitmask, the state after it, and the calls it made to the display
collaborator, oldest first (R785). -/
structure TickResult where
  mask : Byte
  state : State
  calls : List DisplayCall
deriving DecidableEq, Repr

/-- The loop of R781 after `budget` T-cycles. Every step that does not fault costs at least 4 T-cycles, so the budget
ends the loop within 17556 steps, which is what `fuel` starts at (log entry 25). DESIGN CHOICE, unsafe (log entry 27):
no host event lands between two steps of one call. R780 says both that no host action runs during another and that
`setInputState` and the RTC event come between steps rather than only between ticks; here they come between two calls of
`doTick`, or between two steps of a run that the caller drives with `step`. -/
def tickLoop : Nat → Nat → State → List DisplayCall → Host.Outcome TickResult Fault Refusal
  | 0, _, s, calls => .next { mask := 0, state := s, calls := calls }
  | fuel + 1, budget, s, calls =>
    match step s with
    | .fault r => .fault r
    | .refused r => .refused r
    | .next t =>
      if t.fault.isSome then .next { mask := 0b10, state := t, calls := calls }
      else if t.ppu.frameReady then
        .next
          { mask := 0b01
            state := { t with ppu := { t.ppu with frameReady := false } }
            calls := calls ++ t.info.calls }
      else if Config.frameCycles ≤ budget + t.info.cycles then
        .next { mask := 0, state := t, calls := calls ++ t.info.calls }
      else tickLoop fuel (budget + t.info.cycles) t (calls ++ t.info.calls)

/-- `doTick()` (R781, R782). -/
def State.doTick (s : State) : Host.Outcome TickResult Fault Refusal :=
  if s.cart.status ≠ .loaded then .next { mask := 0, state := s, calls := [] }
  else if s.fault.isSome then .next { mask := 0b10, state := s, calls := [] }
  else tickLoop 17556 0 s []

/-! ## Keys (R783, R784) -/

/-- `keys[key]`. -/
def Keys.get (k : Keys) : Key → Bool
  | .a => k.a
  | .b => k.b
  | .start => k.start
  | .select => k.select
  | .up => k.up
  | .down => k.down
  | .left => k.left
  | .right => k.right

/-- `keys[key] <- pressed`. -/
def Keys.set (k : Keys) (key : Key) (pressed : Bool) : Keys :=
  match key with
  | .a => { k with a := pressed }
  | .b => { k with b := pressed }
  | .start => { k with start := pressed }
  | .select => { k with select := pressed }
  | .up => { k with up := pressed }
  | .down => { k with down := pressed }
  | .left => { k with left := pressed }
  | .right => { k with right := pressed }

/-- `setInputState(key, pressed)` (R783). -/
def State.setInputState (s : State) (key : Key) (pressed : Bool) : State :=
  { s with joypad := { s.joypad with keys := s.joypad.keys.set key pressed } }

/-- `isKeyPressed(key)` (R784). -/
def State.isKeyPressed (s : State) (key : Key) : Bool := s.joypad.keys.get key

/-! ## The RTC event (R786) -/

/-- `RtcSecond()` (R786, `21_cartridge_mbc.md` R226). -/
def State.rtcSecond (s : State) : State := { s with cart := s.cart.rtcSecond }

/-! ## Cartridge RAM (R788, R789) -/

/-- A refusal that the host is told of and that changes nothing (R791). -/
inductive HostError where
  /-- No cartridge is loaded (R782). Safe: the state is as before. -/
  | noCartridge
  /-- The cartridge has no RAM (R788). Safe. -/
  | noRam
  /-- The dump's length is not `ram_size` (R788). Safe. -/
  | wrongLength
  /-- A save state's version or size does not match (R790), or its content is none that the layout of the cartridge
  holds (log entry 28). Safe. -/
  | wrongLayout
  /-- A save state of another cartridge's image (R790). Safe. -/
  | otherCartridge
deriving DecidableEq, Repr

/-- `loadCartridgeRam(bytes)` (R788): every byte of cartridge RAM is replaced; an MBC2 cell keeps four bits. -/
def State.loadCartridgeRam (s : State) (bytes : List Byte) : Except HostError State :=
  if s.cart.status ≠ .loaded then .error .noCartridge
  else if s.cart.ramSize = 0 then .error .noRam
  else if bytes.length ≠ s.cart.ramSize then .error .wrongLength
  else .ok { s with mem := bytes.zipIdx.foldl (fun m c => m.write (cartRamBase + c.2) (s.cart.mbc.cellMask c.1)) s.mem }

/-- What `writeCartridgeRam` gives for a byte of cartridge RAM: `0xF0 | cell` on MBC2. -/
def Mbc.dumpByte (m : Mbc) (v : Byte) : Byte :=
  match m with
  | .mbc2 _ => 0xF0 ||| (v &&& 0x0F)
  | _ => v

/-- `writeCartridgeRam()` (R789): no bytes when there is no RAM. -/
def State.writeCartridgeRam (s : State) : Except HostError (List Byte) :=
  if s.cart.status ≠ .loaded then .error .noCartridge
  else .ok ((List.range s.cart.ramSize).map fun i => s.cart.mbc.dumpByte (s.byteAt (cartRamBase + i)))

/-! ## Save states (R790) -/

/-- What identifies a cartridge's image: its banks and its bytes (log entry 17). -/
structure ImageId where
  romBanks : Nat
  bytes : Memory
deriving DecidableEq, Repr

/-- What a save state holds (R790): every piece of state but `keys`, `fault` and the ROM image. -/
structure SavedState where
  cpu : Cpu
  irq : Irq
  timer : Timer
  serial : Serial
  joypadSel : BitVec 2
  joypadLinesPrev : BitVec 4
  ppu : Ppu
  dma : Dma
  mbc : Mbc
  ram : Memory
deriving DecidableEq, Repr

/-- A save-state blob. Its byte layout is the open parameter SAVE_STATE_LAYOUT; here it is what it holds, with its
version and size (log entry 17). -/
structure SaveBlob where
  version : Nat
  size : Nat
  image : ImageId
  content : SavedState
deriving DecidableEq, Repr

/-- The bytes of memory that belong to the ROM image. -/
def Memory.romPart (m : Memory) : Memory := m.filter fun c => decide (romBase ≤ c.1)

/-- The bytes of memory that do not: the internal memories and cartridge RAM. -/
def Memory.ramPart (m : Memory) : Memory := m.filter fun c => decide (c.1 < romBase)

/-- The loaded cartridge's image. -/
def State.imageId (s : State) : ImageId := { romBanks := s.cart.romBanks, bytes := s.mem.romPart }

/-- The size of a blob for this cartridge: the layout's, at most SAVE_STATE_MAX. -/
def Cart.blobSize (c : Cart) : Nat := min (Config.saveStateSize c.ramSize) Config.saveStateMax

/-- The blob that a save writes (R790). -/
def State.blob (s : State) : SaveBlob where
  version := Config.saveStateVersion
  size := s.cart.blobSize
  image := s.imageId
  content :=
    { cpu := s.cpu
      irq := s.irq
      timer := s.timer
      serial := s.serial
      joypadSel := s.joypad.sel
      joypadLinesPrev := s.joypad.linesPrev
      ppu := s.ppu
      dma := s.dma
      mbc := s.cart.mbc
      ram := s.mem.ramPart }

/-- `saveState()` (R790), refused without a cartridge (R782). -/
def State.saveState (s : State) : Except HostError SaveBlob :=
  if s.cart.status ≠ .loaded then .error .noCartridge else .ok s.blob

/-- The state with the content of a save state in it. `loadState` calls it only with a content that `fits`. -/
def State.restore (s : State) (c : SavedState) : State :=
  { s with
    cpu := c.cpu
    irq := c.irq
    timer := c.timer
    serial := c.serial
    joypad := { s.joypad with sel := c.joypadSel, linesPrev := c.joypadLinesPrev }
    ppu := c.ppu
    dma := c.dma
    cart := { s.cart with mbc := c.mbc }
    mem := c.ram ++ s.mem.romPart }

/-- The content is one that a save state of the cartridge `c` can hold: the registers of its MBC variant, and a memory in
canonical form with no byte of the ROM image, neither of which a load may change (`21_cartridge_mbc.md` R191; log entry
28). DESIGN CHOICE, unsafe (log entry 29): no counter is checked. R790 is silent on a blob whose version, size and image
match but whose counters stand outside the ranges of `10_state.md` R46 to R50 (a dot above 455, LY above 153,
`serial_bits` above 7, `dma_remaining` above 640, a line that is not 160 shades); such a blob is accepted as it is. -/
def SavedState.fits (k : SavedState) (c : Cart) : Bool :=
  decide (k.mbc.variant = c.mbc.variant) && k.ram.wf && k.ram.all fun b => decide (b.1 < romBase)

/-- `loadState(blob)` (R790, `21_cartridge_mbc.md` R191). -/
def State.loadState (s : State) (b : SaveBlob) : Except HostError State :=
  if s.cart.status ≠ .loaded then .error .noCartridge
  else if b.version ≠ Config.saveStateVersion ∨ b.size ≠ s.cart.blobSize then .error .wrongLayout
  else if b.image ≠ s.imageId then .error .otherCartridge
  else if b.content.fits s.cart = false then .error .wrongLayout
  else .ok (s.restore b.content)

end Sys2Proof.Machine
end

