-- ==== Sys2Proof/Safety.lean ====
section
/-! DEFINITION. The terms in which claims about the machine are stated: the invariant of every step, what an instruction
leaves unchanged, what a store does to memory, the effects of the arithmetic in plain numbers, and the numbers the
encoding gives the operand names. -/

namespace Sys2Proof.Machine

/-! ## The invariant -/

/-- What holds of the PPU's position (`spec/62_ppu.md` R663 to R665, R670). -/
structure Ppu.Inv (p : Ppu) : Prop where
  /-- R49: `dot` is in 0..455. -/
  dot_lt : p.dot < 456
  /-- R664: LY is in 0..153. -/
  ly_lt : p.ly.toNat < 154
  /-- R665, R666: while the LCD is on, the mode is the one of the position. -/
  mode_eq : p.lcdOn = true → p.mode = modeOf p.ly p.dot
  /-- R670: while the LCD is off, the PPU stands at the start of line 0, in mode 0, with the STAT line low. -/
  off : p.lcdOn = false → p.ly = 0 ∧ p.dot = 0 ∧ p.mode = .hBlank ∧ p.statLine = false
  /-- R49: the line buffer holds 160 shades. -/
  line_length : p.line.length = 160

/-- No bank register that cannot hold 0 holds it (`spec/21_cartridge_mbc.md` R206, R209, R212). -/
def Mbc.Inv : Mbc → Prop
  | .romOnly => True
  | .mbc1 m => m.bank1 ≠ 0
  | .mbc2 m => m.romBank ≠ 0
  | .mbc3 m => m.romBank ≠ 0
  | .mbc5 _ => True

/-- What holds of every state that a run can reach, and what every step keeps. A `loadState` of a blob that no save wrote
may break it: no counter of a blob is checked (log entry 29). -/
structure State.Inv (s : State) : Prop where
  /-- The memory is in its canonical form. -/
  mem_wf : s.mem.wf = true
  /-- `spec/60_exceptions.md` R642: `IME = 1` implies `ei_delay = 0`. -/
  ime_delay : s.cpu.ime = true → s.cpu.eiDelay = 0
  /-- `spec/45_system.md` R508: the halt bug is armed only in a CPU that runs. -/
  halt_bug : s.cpu.haltBug = true → s.cpu.mode = .running
  /-- `spec/10_state.md` R46, R622: `timer_signal` is the detector's output for the counter and TAC. -/
  timer_signal : s.timer.signal = s.timer.sig
  /-- R47: `serial_bits` stays below 8 between two T-cycles, since it returns to 0 at 8 (R628). -/
  serial_bits : s.serial.bits < 8
  /-- R47: `serial_clock` is in 0..511. -/
  serial_clock : s.serial.clock < 512
  /-- R50: `dma_remaining` is in 0..640. -/
  dma_remaining : s.dma.remaining ≤ 640
  ppu : s.ppu.Inv
  mbc : s.cart.mbc.Inv
  /-- R186, R188: no cartridge has more than 128 KiB of RAM. -/
  ram_size : s.cart.ramSize ≤ 131072

/-! ## A run without a fault -/

/-- No fault has ended the run (`spec/10_state.md` R41). -/
def State.Safe (s : State) : Prop := s.fault = none

/-! ## What an instruction leaves unchanged -/

/-- `exec i s` answers a next state, of which `P` holds. -/
def Completes (i : Instr) (s : State) (P : State → Prop) : Prop := ∃ t, exec i s = .next t ∧ P t

/-- Every 8-bit register outside `l` is unchanged. -/
def RegsKept (l : List Reg8) (s t : State) : Prop := ∀ r, r ∉ l → t.reg r = s.reg r

/-- The four flags are unchanged. -/
def FlagsKept (s t : State) : Prop := t.flags = s.flags

/-- SP is unchanged. -/
def SpKept (s t : State) : Prop := t.cpu.sp = s.cpu.sp

/-- PC is unchanged by the meaning: it already points past the instruction (`spec/10_state.md` R36). -/
def PcKept (s t : State) : Prop := t.cpu.pc = s.cpu.pc

/-- IME, `ei_delay`, `cpu_mode` and `halt_bug` are unchanged. -/
def ControlKept (s t : State) : Prop :=
  t.cpu.ime = s.cpu.ime ∧ t.cpu.eiDelay = s.cpu.eiDelay ∧ t.cpu.mode = s.cpu.mode ∧ t.cpu.haltBug = s.cpu.haltBug

/-- Every device register and every hidden device state is unchanged, and so is the cartridge. -/
def DevicesKept (s t : State) : Prop :=
  t.irq = s.irq ∧ t.timer = s.timer ∧ t.serial = s.serial ∧ t.joypad = s.joypad ∧ t.ppu = s.ppu ∧ t.dma = s.dma
    ∧ t.cart = s.cart

/-- Every byte of memory reads as before. -/
def MemoryKept (s t : State) : Prop := ∀ p, t.byteAt p = s.byteAt p

/-- No fault is raised or cleared, and the step's cost grows by `n` T-cycles. -/
def Costs (n : Nat) (s t : State) : Prop := t.fault = s.fault ∧ t.info = { s.info with cycles := s.info.cycles + n }

/-- Outside the registers, the flags, SP, PC and the draws, the instruction only costs `n` T-cycles. -/
def Quiet (n : Nat) (s t : State) : Prop := ControlKept s t ∧ DevicesKept s t ∧ MemoryKept s t ∧ Costs n s t

/-- No value of UNMODELLED_READ is used. -/
def NoDraw (s t : State) : Prop := t.draws = s.draws

/-- The draws that a data read of `a` makes, and no other. -/
def DrawsOf (a : Addr) (s t : State) : Prop := t.draws = (s.memRead a).2.draws

/-- Only 8-bit registers and flags differ, at a cost of `n` T-cycles, and nothing is read from the bus. -/
def RegisterOnly (n : Nat) (s t : State) : Prop := SpKept s t ∧ PcKept s t ∧ NoDraw s t ∧ Quiet n s t

/-- Only 8-bit registers and flags differ, at a cost of `n` T-cycles, and the one data read is of `a`. -/
def ReadsOnly (n : Nat) (a : Addr) (s t : State) : Prop := SpKept s t ∧ PcKept s t ∧ DrawsOf a s t ∧ Quiet n s t

/-- The CPU is unchanged outside the registers `l`, SP and PC: the other registers, the flags and the control state. -/
def CpuKept (l : List Reg8) (s t : State) : Prop := RegsKept l s t ∧ FlagsKept s t ∧ ControlKept s t

/-- The 8-bit registers that a pair is made of. -/
def regsOfRp : Rp → List Reg8
  | .bc => [.b, .c]
  | .de => [.d, .e]
  | .hl => [.h, .l]
  | .sp => []

/-- The 8-bit registers that a `POP` writes. -/
def regsOfRp2 : Rp2 → List Reg8
  | .bc => [.b, .c]
  | .de => [.d, .e]
  | .hl => [.h, .l]
  | .af => [.a]

/-- `i` loads the byte read at `a` into `r`, at a cost of `n` T-cycles, and changes nothing else. -/
def LoadsInto (i : Instr) (r : Reg8) (a : State → Addr) (n : Nat) : Prop :=
  ∀ s, Completes i s fun t =>
    t.reg r = (s.memRead (a s)).1 ∧ RegsKept [r] s t ∧ FlagsKept s t ∧ ReadsOnly n (a s) s t

/-! ## What a store does -/

/-- The byte of WRAM or HRAM that an address names: WRAM, its echo, HRAM (`spec/20_memory.md` R112 to R114). -/
def ramPlace (a : Addr) : Option Nat :=
  if 0xC000 ≤ a.toNat ∧ a.toNat < 0xE000 then some a.toNat
  else if 0xE000 ≤ a.toNat ∧ a.toNat < 0xFE00 then some (a.toNat - 0x2000)
  else if 0xFF80 ≤ a.toNat ∧ a.toNat < 0xFFFF then some a.toNat
  else none

/-- The byte at `p` is one that a write to `a` copies by OAM DMA (`spec/20_memory.md` R131). -/
def OamCopied (a : Addr) (p : Nat) : Prop := a = 0xFF46 ∧ 0xFE00 ≤ p ∧ p < 0xFEA0

/-- Every device and the cartridge are as in `u`. -/
def DevicesAs (u t : State) : Prop := DevicesKept u t

/-- `t` is what a write of `v` to `a` makes of `s`, at a cost of `n` T-cycles: the byte stored to holds `v`, every other
byte reads as before (but for the OAM copy of a write to FF46), and the devices are as the bus write leaves them. -/
def StoresByte (n : Nat) (a : Addr) (v : Byte) (s t : State) : Prop :=
  (∀ p, s.storeAddr a = some p → t.byteAt p = s.storedByte a v)
    ∧ (∀ p, s.storeAddr a ≠ some p → ¬OamCopied a p → t.byteAt p = s.byteAt p)
    ∧ DevicesAs (s.busWrite a v) t ∧ NoDraw s t ∧ t.fault = s.fault
    ∧ t.info = { s.info with cycles := s.info.cycles + n, dmaWritten := s.info.dmaWritten || a == 0xFF46 }

/-- `t` is what a write of `v1` to `a1` and then of `v2` to `a2` makes of `s`, at a cost of `n` T-cycles. The second
address is routed in the state after the first write (`spec/20_memory.md` R104, R108). -/
def StoresTwo (n : Nat) (a1 : Addr) (v1 : Byte) (a2 : Addr) (v2 : Byte) (s t : State) : Prop :=
  (∀ p, (s.busWrite a1 v1).storeAddr a2 = some p → t.byteAt p = (s.busWrite a1 v1).storedByte a2 v2)
    ∧ (∀ p, s.storeAddr a1 = some p → (s.busWrite a1 v1).storeAddr a2 ≠ some p → ¬OamCopied a2 p →
        t.byteAt p = s.storedByte a1 v1)
    ∧ (∀ p, s.storeAddr a1 ≠ some p → (s.busWrite a1 v1).storeAddr a2 ≠ some p → ¬OamCopied a1 p → ¬OamCopied a2 p →
        t.byteAt p = s.byteAt p)
    ∧ DevicesAs ((s.busWrite a1 v1).busWrite a2 v2) t ∧ NoDraw s t ∧ t.fault = s.fault
    ∧ t.info =
        { s.info with
          cycles := s.info.cycles + n
          dmaWritten := s.info.dmaWritten || a1 == 0xFF46 || a2 == 0xFF46 }

/-- `i` stores the byte `v` at `a`, at a cost of `n` T-cycles, and changes nothing else in the CPU. -/
def StoresFrom (i : Instr) (a : State → Addr) (v : State → Byte) (n : Nat) : Prop :=
  ∀ s, s.mem.wf = true → s.dmaHolds (a s) = false →
    Completes i s fun t => t.cpu = s.cpu ∧ StoresByte n (a s) (v s) s t

/-- `t` is what the two pushes of the 16-bit value `v` make of `s` (`spec/00_scope.md` R9 `Push16`), at a cost of `n`
T-cycles: the high byte at SP - 1, then the low byte at SP - 2, and SP less 2. -/
def Pushes (n : Nat) (v : Addr) (s t : State) : Prop :=
  StoresTwo n (s.cpu.sp - 1) (hiByte v) (s.cpu.sp - 2) (loByte v) s t ∧ t.cpu.sp = s.cpu.sp - 2

/-- The two bytes below SP can be written: OAM DMA does not hold them (R120). -/
def StackFree (s : State) : Prop := s.dmaHolds (s.cpu.sp - 1) = false ∧ s.dmaHolds (s.cpu.sp - 2) = false

/-- The record of a `DmaBusConflict` (`spec/60_exceptions.md` R601). -/
def dmaConflict (s : State) (op : Byte) (a : Addr) : FaultRecord :=
  { kind := .dmaBusConflict, pc := s.info.instPc, addr := a, opcode := op }

/-- The instruction's write to `a` faults: nothing but the record and the draws differs from `s` (R120, R602). -/
def FaultsAt (i : Instr) (s : State) (a : Addr) : Prop :=
  ∃ d, exec i s = .next { s with fault := some (dmaConflict s (opcodeOf i) a), draws := d }

/-- The one write of `i`, to `a`, faults while OAM DMA holds the bus there. -/
def StoreFaults (i : Instr) (a : State → Addr) : Prop := ∀ s, s.dmaHolds (a s) = true → FaultsAt i s (a s)

/-- Each of the two writes of `i` from `s`, to `a1` and then to `a2`, faults while OAM DMA holds the bus there. -/
def TwoWritesFault (i : Instr) (s : State) (a1 a2 : Addr) : Prop :=
  (s.dmaHolds a1 = true → FaultsAt i s a1) ∧ (s.dmaHolds a1 = false → s.dmaHolds a2 = true → FaultsAt i s a2)

/-- `TwoWritesFault` from every state. -/
def TwoStoresFault (i : Instr) (a1 a2 : State → Addr) : Prop := ∀ s, TwoWritesFault i s (a1 s) (a2 s)

/-! ## Arithmetic in plain numbers -/

/-- The number 0 or 1 of a flag. -/
def bitNat (b : Bool) : Nat := if b then 1 else 0

/-- What `ADD`, `ADC`, `SUB`, `SBC`, `AND`, `XOR`, `OR` and `CP` of A = `a` and a source byte `v` under the flags `f`
leave in A and in the flags (`spec/41_alu8.md` R351 to R375), over the natural numbers. -/
def AluEffect (op : AluOp) (a v : Byte) (f : Flags) (a' : Byte) (f' : Flags) : Prop :=
  match op with
  | .add =>
    a'.toNat = (a.toNat + v.toNat) % 256
      ∧ f' = { z := decide (a'.toNat = 0), n := false, h := decide (15 < a.toNat % 16 + v.toNat % 16),
               c := decide (255 < a.toNat + v.toNat) }
  | .adc =>
    a'.toNat = (a.toNat + v.toNat + bitNat f.c) % 256
      ∧ f' = { z := decide (a'.toNat = 0), n := false, h := decide (15 < a.toNat % 16 + v.toNat % 16 + bitNat f.c),
               c := decide (255 < a.toNat + v.toNat + bitNat f.c) }
  | .sub =>
    a'.toNat = (256 + a.toNat - v.toNat) % 256
      ∧ f' = { z := decide (a'.toNat = 0), n := true, h := decide (a.toNat % 16 < v.toNat % 16),
               c := decide (a.toNat < v.toNat) }
  | .sbc =>
    a'.toNat = (512 + a.toNat - v.toNat - bitNat f.c) % 256
      ∧ f' = { z := decide (a'.toNat = 0), n := true, h := decide (a.toNat % 16 < v.toNat % 16 + bitNat f.c),
               c := decide (a.toNat < v.toNat + bitNat f.c) }
  | .and =>
    (∀ k, k < 8 → a'.getLsbD k = (a.getLsbD k && v.getLsbD k))
      ∧ f' = { z := decide (a'.toNat = 0), n := false, h := true, c := false }
  | .xor =>
    (∀ k, k < 8 → a'.getLsbD k = (a.getLsbD k != v.getLsbD k))
      ∧ f' = { z := decide (a'.toNat = 0), n := false, h := false, c := false }
  | .or =>
    (∀ k, k < 8 → a'.getLsbD k = (a.getLsbD k || v.getLsbD k))
      ∧ f' = { z := decide (a'.toNat = 0), n := false, h := false, c := false }
  | .cp =>
    a' = a
      ∧ f' = { z := decide (a.toNat = v.toNat), n := true, h := decide (a.toNat % 16 < v.toNat % 16),
               c := decide (a.toNat < v.toNat) }

/-- `INC` on 8 bits (R376, R377). -/
def IncEffect (v : Byte) (f : Flags) (v' : Byte) (f' : Flags) : Prop :=
  v'.toNat = (v.toNat + 1) % 256 ∧ f' = { z := decide (v.toNat = 255), n := false, h := decide (v.toNat % 16 = 15), c := f.c }

/-- `DEC` on 8 bits (R378, R379). -/
def DecEffect (v : Byte) (f : Flags) (v' : Byte) (f' : Flags) : Prop :=
  v'.toNat = (v.toNat + 255) % 256 ∧ f' = { z := decide (v.toNat = 1), n := true, h := decide (v.toNat % 16 = 0), c := f.c }

/-- The correction that `DAA` adds after an addition (R380): 0x60 for the high digit, 0x06 for the low one. -/
def daaCorrection (a : Byte) (f : Flags) : Nat :=
  (if f.c = true ∨ 0x99 < a.toNat then 0x60 else 0) + (if f.h = true ∨ 9 < a.toNat % 16 then 0x06 else 0)

/-- `DAA` (R380). -/
def DaaEffect (a : Byte) (f : Flags) (a' : Byte) (f' : Flags) : Prop :=
  if f.n = true then
    a'.toNat = (512 + a.toNat - 0x60 * bitNat f.c - 0x06 * bitNat f.h) % 256
      ∧ f' = { z := decide (a'.toNat = 0), n := true, h := false, c := f.c }
  else
    a'.toNat = (a.toNat + daaCorrection a f) % 256
      ∧ f' = { z := decide (a'.toNat = 0), n := false, h := false, c := f.c || decide (0x99 < a.toNat) }

/-- The packed decimal byte of a number below 100. -/
def bcd (n : Nat) : Byte := BitVec.ofNat 8 (n / 10 * 16 + n % 10)

/-- The eight rotates and shifts bit by bit (`spec/43_rotate_shift_bit.md` R430 to R450): bit `k` of the result and the
bit shifted out, of `v` under the carry flag `c`. -/
def RotEffect (op : RotOp) (v : Byte) (c : Bool) (v' : Byte) (out : Bool) : Prop :=
  match op with
  | .rlc => (∀ k, k < 8 → v'.getLsbD k = if k = 0 then v.getLsbD 7 else v.getLsbD (k - 1)) ∧ out = v.getLsbD 7
  | .rrc => (∀ k, k < 8 → v'.getLsbD k = if k = 7 then v.getLsbD 0 else v.getLsbD (k + 1)) ∧ out = v.getLsbD 0
  | .rl => (∀ k, k < 8 → v'.getLsbD k = if k = 0 then c else v.getLsbD (k - 1)) ∧ out = v.getLsbD 7
  | .rr => (∀ k, k < 8 → v'.getLsbD k = if k = 7 then c else v.getLsbD (k + 1)) ∧ out = v.getLsbD 0
  | .sla => (∀ k, k < 8 → v'.getLsbD k = if k = 0 then false else v.getLsbD (k - 1)) ∧ out = v.getLsbD 7
  | .sra => (∀ k, k < 8 → v'.getLsbD k = if k = 7 then v.getLsbD 7 else v.getLsbD (k + 1)) ∧ out = v.getLsbD 0
  | .swap => (∀ k, k < 8 → v'.getLsbD k = v.getLsbD ((k + 4) % 8)) ∧ out = false
  | .srl => (∀ k, k < 8 → v'.getLsbD k = if k = 7 then false else v.getLsbD (k + 1)) ∧ out = v.getLsbD 0

/-- The flags after a rotate or shift of the 0xCB page. -/
def rotFlags (v' : Byte) (out : Bool) : Flags := { z := decide (v'.toNat = 0), n := false, h := false, c := out }

/-- The flags after `ADD SP,e8` and `LD HL,SP+e8` (`spec/42_alu16.md` R403, R404). -/
def spFlags (sp : Addr) (e : Byte) : Flags :=
  { z := false, n := false, h := decide (15 < sp.toNat % 16 + e.toNat % 16), c := decide (255 < sp.toNat % 256 + e.toNat) }

/-- `SP + sext_16(e)` over the natural numbers: a byte of 128 or more stands for itself less 256. -/
def spPlus (sp : Addr) (e : Byte) : Nat := (sp.toNat + e.toNat + (if 128 ≤ e.toNat then 65280 else 0)) % 65536

/-! ## The window of cartridge RAM, A000 to BFFF (`spec/21_cartridge_mbc.md`) -/

/-- The physical address of the byte of RAM bank `bank` that `a` names (R202). -/
def State.ramBankPlace (s : State) (bank : Nat) (a : Addr) : Nat :=
  cartRamBase + (bank * 8192 + (a.toNat - 0xA000)) % s.cart.ramSize

/-- What a read of RAM bank `bank` at `a` gives: 0xFF without RAM (R202). -/
def State.ramBankRead (s : State) (bank : Nat) (a : Addr) : Byte :=
  if s.cart.ramSize = 0 then 0xFF else s.byteAt (s.ramBankPlace bank a)

/-- What a write to RAM bank `bank` at `a` does: nothing without RAM (R203). -/
def State.ramBankWrite (s : State) (bank : Nat) (a : Addr) (v : Byte) : State :=
  if s.cart.ramSize = 0 then s else s.setByte (s.ramBankPlace bank a) v

/-- The RTC register that the selection 8 to 12 names, as a number with its unused bits 0 (R215, R224). -/
def Rtc.number (t : Rtc) (sel : Nat) : Nat :=
  if sel = 8 then t.s.toNat
  else if sel = 9 then t.m.toNat
  else if sel = 10 then t.h.toNat
  else if sel = 11 then t.dl.toNat
  else bitNat t.day8 + 64 * bitNat t.halt + 128 * bitNat t.carry

/-- The RTC registers after a write of `v`, masked, to the one that the selection 8 to 12 names (R216, R224). -/
def Rtc.stored (t : Rtc) (sel : Nat) (v : Byte) : Rtc :=
  if sel = 8 then { t with s := BitVec.ofNat 6 (v.toNat % 64) }
  else if sel = 9 then { t with m := BitVec.ofNat 6 (v.toNat % 64) }
  else if sel = 10 then { t with h := BitVec.ofNat 5 (v.toNat % 32) }
  else if sel = 11 then { t with dl := v }
  else { t with day8 := v.getLsbD 0, halt := v.getLsbD 6, carry := v.getLsbD 7 }

/-- What a read of `a` in A000 to BFFF gives (R202, R205, R208, R210, R215, R231). -/
def State.windowRead (s : State) (a : Addr) : Byte :=
  match s.cart.mbc with
  | .romOnly => s.ramBankRead 0 a
  | .mbc1 m => if m.ramEnable = true then s.ramBankRead (if m.mode = true then m.bank2.toNat else 0) a else 0xFF
  | .mbc2 m =>
    if m.ramEnable = true then BitVec.ofNat 8 (0xF0 + (s.byteAt (cartRamBase + a.toNat % 512)).toNat % 16) else 0xFF
  | .mbc3 m =>
    if m.ramEnable = true then
      if m.sel.toNat < 8 then s.ramBankRead m.sel.toNat a
      else if m.sel.toNat < 13 ∧ s.cart.rtc = true then BitVec.ofNat 8 (m.latched.number m.sel.toNat)
      else 0xFF
    else 0xFF
  | .mbc5 m => if m.ramEnable = true then s.ramBankRead m.ramBank.toNat a else 0xFF

/-- What a write of `v` to `a` in A000 to BFFF does (R203, R205, R208, R210, R216, R231). -/
def State.windowWrite (s : State) (a : Addr) (v : Byte) : State :=
  match s.cart.mbc with
  | .romOnly => s.ramBankWrite 0 a v
  | .mbc1 m => if m.ramEnable = true then s.ramBankWrite (if m.mode = true then m.bank2.toNat else 0) a v else s
  | .mbc2 m =>
    if m.ramEnable = true then s.setByte (cartRamBase + a.toNat % 512) (BitVec.ofNat 8 (v.toNat % 16)) else s
  | .mbc3 m =>
    if m.ramEnable = true then
      if m.sel.toNat < 8 then s.ramBankWrite m.sel.toNat a v
      else if m.sel.toNat < 13 ∧ s.cart.rtc = true then
        { s with cart := { s.cart with mbc := .mbc3 { m with live := m.live.stored m.sel.toNat v } } }
      else s
    else s
  | .mbc5 m => if m.ramEnable = true then s.ramBankWrite m.ramBank.toNat a v else s

/-! ## The device registers in plain numbers (`spec/10_state.md` R44, R45) -/

/-- The number of a PPU mode (R49). -/
def modeNumber (m : PpuMode) : Nat :=
  if m = .drawing then 3 else if m = .oamScan then 2 else if m = .vBlank then 1 else 0

/-- The counter bit that TAC bits 1..0 select (`spec/60_exceptions.md` R621). -/
def timerBit (tac : Nat) : Nat := if tac % 4 = 0 then 9 else if tac % 4 = 1 then 3 else if tac % 4 = 2 then 5 else 7

/-- What a write that leaves the counter and TAC at these values and the detector at `out` makes of `s` (R623, R624): on
a falling edge TIMA increments, or at 0xFF is reloaded with a request. -/
def State.timerWritten (s : State) (counter : BitVec 16) (tac : BitVec 3) (out : Bool) : State :=
  { s with
    timer :=
      { counter := counter, tac := tac, signal := out, tma := s.timer.tma
        tima :=
          if s.timer.signal = true ∧ out = false then
            if s.timer.tima = 0xFF then s.timer.tma else BitVec.ofNat 8 (s.timer.tima.toNat + 1)
          else s.timer.tima }
    irq :=
      { s.irq with
        req :=
          if s.timer.signal = true ∧ out = false ∧ s.timer.tima = 0xFF then s.irq.req ||| 0b00100 else s.irq.req } }

/-- All that an advance of the devices may change of `s` in `t` (R644, `spec/62_ppu.md` R660): of the timer its counter,
signal and TIMA; of the serial port SB, the transfer in progress and its counters; of the PPU its position, mode, STAT
line, window line, frame signal and line buffer; the rest of the DMA period; requests but the joypad's, which only come
up; display calls, which only come on. -/
def AdvanceKeeps (s t : State) : Prop :=
  t =
    { s with
      timer := { s.timer with counter := t.timer.counter, signal := t.timer.signal, tima := t.timer.tima }
      serial :=
        { s.serial with
          sb := t.serial.sb, transfer := t.serial.transfer, bits := t.serial.bits, clock := t.serial.clock }
      ppu :=
        { s.ppu with
          ly := t.ppu.ly, dot := t.ppu.dot, mode := t.ppu.mode, statLine := t.ppu.statLine
          windowLine := t.ppu.windowLine, frameReady := t.ppu.frameReady, line := t.ppu.line }
      dma := { s.dma with remaining := t.dma.remaining }
      irq := { s.irq with req := t.irq.req }
      info := { s.info with calls := t.info.calls } }
  ∧ t.irq.req.getLsbD 4 = s.irq.req.getLsbD 4
  ∧ (∀ i, s.irq.req.getLsbD i = true → t.irq.req.getLsbD i = true)
  ∧ s.info.calls <+: t.info.calls

/-! ## A line of pixels in plain numbers (`spec/62_ppu.md`) -/

/-- The colour number of row `row`, column `col` of the tile at `t` (R680). -/
def State.tileNumber (s : State) (t row col : Nat) : Nat :=
  2 * bitNat ((s.byteAt (t + 2 * row + 1)).getLsbD (7 - col)) + bitNat ((s.byteAt (t + 2 * row)).getLsbD (7 - col))

/-- The address of BG and window tile `t`: in 8000 to 8FFF with LCDC bit 4, else in 8800 to 97FF (R680). -/
def State.tilePlace (s : State) (t : Byte) : Nat :=
  if s.ppu.lcdc.getLsbD 4 = true ∨ 128 ≤ t.toNat then 0x8000 + 16 * t.toNat else 0x9000 + 16 * t.toNat

/-- The colour number at row `y`, column `x` of the tile map that bit `b` of LCDC selects (R681, R684). -/
def State.mapNumber (s : State) (b y x : Nat) : Nat :=
  s.tileNumber
    (s.tilePlace (s.byteAt ((if s.ppu.lcdc.getLsbD b = true then 0x9C00 else 0x9800) + y / 8 * 32 + x / 8)))
    (y % 8) (x % 8)

/-- The window covers column `x` of the current line, given that LCDC bit 0 is set (R682). -/
def State.WindowAt (s : State) (x : Nat) : Prop :=
  s.ppu.lcdc.getLsbD 5 = true ∧ s.ppu.wy.toNat ≤ s.ppu.ly.toNat ∧ s.ppu.wx.toNat ≤ 166 ∧ s.ppu.wx.toNat ≤ x + 7

/-- `n` is the colour number of the window or the background at column `x`: `bgc` of R689. -/
def State.BackNumber (s : State) (x n : Nat) : Prop :=
  (s.ppu.lcdc.getLsbD 0 = false → n = 0)
    ∧ (s.ppu.lcdc.getLsbD 0 = true → s.WindowAt x →
        n = s.mapNumber 6 s.ppu.windowLine.toNat (x + 7 - s.ppu.wx.toNat))
    ∧ (s.ppu.lcdc.getLsbD 0 = true → ¬s.WindowAt x →
        n = s.mapNumber 3 ((s.ppu.ly.toNat + s.ppu.scy.toNat) % 256) ((x + s.ppu.scx.toNat) % 256))

/-- `shade(P, c)` (R688). -/
def shadeNumber (p : Byte) (c : Nat) : Nat := p.toNat / 4 ^ c % 4

/-- The height of a sprite: 16 with LCDC bit 2, else 8 (R675). -/
def State.spriteRows (s : State) : Nat := if s.ppu.lcdc.getLsbD 2 = true then 16 else 8

/-- The selected sprites of the current line: the first ten of the 40 entries of OAM, in order, whose Y byte satisfies
`Y <= LY + 16 < Y + h` (R675, R685). -/
def State.selectedSprites (s : State) : List Sprite :=
  (((List.range 40).filter fun i =>
      decide ((s.byteAt (0xFE00 + 4 * i)).toNat ≤ s.ppu.ly.toNat + 16
        ∧ s.ppu.ly.toNat + 16 < (s.byteAt (0xFE00 + 4 * i)).toNat + s.spriteRows)).take 10).map fun i =>
    { y := s.byteAt (0xFE00 + 4 * i), x := s.byteAt (0xFE00 + 4 * i + 1)
      tile := s.byteAt (0xFE00 + 4 * i + 2), attr := s.byteAt (0xFE00 + 4 * i + 3) }

/-- The colour number of the sprite `sp` at a column `x` that it covers: row and column counted from the other end under
the flips, the tile's number made even for a sprite of 16 rows (R686). -/
def State.spriteNumber (s : State) (sp : Sprite) (x : Nat) : Nat :=
  s.tileNumber
    (0x8000 + 16 * (if s.ppu.lcdc.getLsbD 2 = true then sp.tile.toNat / 2 * 2 else sp.tile.toNat))
    (if sp.attr.getLsbD 6 = true then sp.y.toNat + s.spriteRows - (s.ppu.ly.toNat + 17) else s.ppu.ly.toNat + 16 - sp.y.toNat)
    (if sp.attr.getLsbD 5 = true then sp.x.toNat - (x + 1) else x + 8 - sp.x.toNat)

/-- `n` is the shade of pixel `x` of the current line (R689, R691); the winning sprite and its colour are those of R675,
R686 and R687. -/
def State.PixelNumber (s : State) (x n : Nat) : Prop :=
  ∃ bgc, s.BackNumber x bgc
    ∧ (∀ sp, s.ppu.lcdc.getLsbD 1 = true → s.winner s.lineSprites x = some sp → sp.attr.getLsbD 7 = false ∨ bgc = 0 →
        n = shadeNumber (if sp.attr.getLsbD 4 = true then s.ppu.obp1 else s.ppu.obp0) (s.spriteColour sp x).toNat)
    ∧ ((s.ppu.lcdc.getLsbD 1 = false ∨ s.winner s.lineSprites x = none
          ∨ ∃ sp, s.winner s.lineSprites x = some sp ∧ sp.attr.getLsbD 7 = true ∧ bgc ≠ 0) →
        n = if s.ppu.lcdc.getLsbD 0 = true then shadeNumber s.ppu.bgp bgc else 0)

/-! ## Cartridge types (`spec/21_cartridge_mbc.md`) -/

/-- The supported cartridge type codes with the variants they select (R187). -/
def cartVariants : List (Nat × Variant) :=
  [0x00, 0x08, 0x09].map (·, .romOnly) ++ [0x01, 0x02, 0x03].map (·, .mbc1) ++ [0x05, 0x06].map (·, .mbc2)
    ++ [0x0F, 0x10, 0x11, 0x12, 0x13].map (·, .mbc3) ++ [0x19, 0x1A, 0x1B, 0x1C, 0x1D, 0x1E].map (·, .mbc5)

/-! ## A call of `doTick` as a run of steps (`spec/80_host_interface.md` R781) -/

/-- The states of the list are those after one step each, the first from `s`. -/
def StepsThrough : State → List State → Prop
  | _, [] => True
  | s, t :: ts => step s = .next t ∧ StepsThrough t ts

/-- The cost of the steps that ended in these states (R640). -/
def stepsCost (ts : List State) : Nat := (ts.map fun t => t.info.cycles).sum

/-- The display calls of the steps that ended in these states (R785). -/
def stepsCalls (ts : List State) : List DisplayCall := ts.flatMap fun t => t.info.calls

/-! ## The numbers of the operand names (`spec/30_encoding.md` R263) -/

/-- The index of a register in `r8`. -/
def codeR : Reg8 → Nat
  | .b => 0
  | .c => 1
  | .d => 2
  | .e => 3
  | .h => 4
  | .l => 5
  | .a => 7

/-- The index of a pair in `rp`. -/
def codeRp : Rp → Nat
  | .bc => 0
  | .de => 1
  | .hl => 2
  | .sp => 3

/-- The index of a pair in `rp2`. -/
def codeRp2 : Rp2 → Nat
  | .bc => 0
  | .de => 1
  | .hl => 2
  | .af => 3

/-- The index of a condition in `cc`. -/
def codeCc : Cond → Nat
  | .nz => 0
  | .z => 1
  | .nc => 2
  | .c => 3

/-- The index of an operation in `alu`. -/
def codeAlu : AluOp → Nat
  | .add => 0
  | .adc => 1
  | .sub => 2
  | .sbc => 3
  | .and => 4
  | .xor => 5
  | .or => 6
  | .cp => 7

/-- The index of an operation in `rot`. -/
def codeRot : RotOp → Nat
  | .rlc => 0
  | .rrc => 1
  | .rl => 2
  | .rr => 3
  | .sla => 4
  | .sra => 5
  | .swap => 6
  | .srl => 7

/-- The byte of an illegal opcode (R269). -/
def codeIllegal : IllegalOp → Byte
  | .xd3 => 0xD3
  | .xdb => 0xDB
  | .xdd => 0xDD
  | .xe3 => 0xE3
  | .xe4 => 0xE4
  | .xeb => 0xEB
  | .xec => 0xEC
  | .xed => 0xED
  | .xf4 => 0xF4
  | .xfc => 0xFC
  | .xfd => 0xFD

/-- The opcode byte `n`. -/
def opc (n : Nat) : Byte := BitVec.ofNat 8 n

/-- An illegal opcode, as an instruction. -/
def IsIllegal (i : Instr) : Prop := ∃ o, i = .illegal o

end Sys2Proof.Machine
end

