-- ==== Sys2Proof/Certificates/Slice0/Obligations.lean ====
section
/-! DEFINITION. The statements for the provers. Each formalises rules of `spec/`; its docstring names them. "The families"
below are the functions of `Sys2Proof/Decode.lean` (`Instr.ldRR` and so on), which between them and the constructors
named here cover every constructor of `Instr`. In every statement about `exec`, PC already points past the
instruction. -/

open Sys2Proof Sys2Proof.Machine

/-! ## Encoding (`spec/30_encoding.md`) -/

/-- R260 to R270: decoding the encoding of a whole instruction gives it back, whatever bytes follow. -/
def Obligations.DecodeEncodeRoundTrip : Prop :=
  ∀ (i : Instr) (rest : List Byte), i.WellFormed → decode (encode i ++ rest) = .ok i

/-- R260, R267, R269, R270: any three bytes start with exactly one whole instruction, and its encoding is the first
`instrLength` of them: no bit of an encoding is dropped and no opcode byte is rejected. -/
def Obligations.EveryOpcodeDecodesAndReencodes : Prop :=
  ∀ (o b1 b2 : Byte) (rest : List Byte), ∃ i, decode (o :: b1 :: b2 :: rest) = .ok i ∧ i.WellFormed
    ∧ encode i = [o, b1, b2].take (instrLength o)

/-- Words written out from the encodings of `spec/40_loads.md` to `45_system.md` decode to their instructions. -/
def Obligations.DecodeReadsWrittenWords : Prop :=
  decode [0b01001000] = .ok .ld_c_b ∧ decode [0b00111110, 0x3C] = .ok (.ld_a_n8 0x3C)
    ∧ decode [0b00001000, 0x00, 0xC1] = .ok (.ld_atN16_sp 0xC100) ∧ decode [0b11110101] = .ok .push_af
    ∧ decode [0b10011100] = .ok .sbc_a_h ∧ decode [0b00001001] = .ok .add_hl_bc
    ∧ decode [0b11001011, 0b01111100] = .ok .bit_7_h ∧ decode [0b11001011, 0b00110110] = .ok .swap_atHL
    ∧ decode [0b00100000, 0xFB] = .ok (.jr_nz_e8 0xFB) ∧ decode [0b11001101, 0x00, 0x02] = .ok (.call_n16 0x0200)
    ∧ decode [0b11101111] = .ok .rst_28 ∧ decode [0b01110110] = .ok .halt ∧ decode [0b11011011] = .ok .illegal_db

/-! ## Reset, the step, the invariant -/

/-- R53, R731, R732: what a successful `loadGame` leaves in the CPU, the I/O registers and the hidden device state; R52,
R183, R186 to R189, R224: in the cartridge, its header, power-on registers, clock and RAM. That `ram_size` of an MBC2 cartridge is
the number of its cells, 512, is log entry 18 (DEDUCED). -/
def Obligations.LoadLeavesResetValues : Prop :=
  ∀ (s : State) (f : RomImage) (c : Cart) (initMem initCartRam : Memory), f.parse = .ok c →
    ∃ t, s.loadGame (some f) initMem initCartRam = (.loaded, t)
      ∧ t.cpu.a = 0x01 ∧ t.cpu.flags.toByte = 0xB0 ∧ t.pair .bc = 0x0013 ∧ t.pair .de = 0x00D8 ∧ t.pair .hl = 0x014D
      ∧ t.cpu.sp = 0xFFFE ∧ t.cpu.pc = 0x0100
      ∧ t.cpu.ime = false ∧ t.cpu.eiDelay = 0 ∧ t.cpu.mode = .running ∧ t.cpu.haltBug = false ∧ t.fault = none
      ∧ (t.busRead 0xFF01).1 = 0x00 ∧ (t.busRead 0xFF02).1 = 0x7E ∧ (t.busRead 0xFF04).1 = 0xAB
      ∧ (t.busRead 0xFF05).1 = 0x00 ∧ (t.busRead 0xFF06).1 = 0x00 ∧ (t.busRead 0xFF07).1 = 0xF8
      ∧ (t.busRead 0xFF0F).1 = 0xE1 ∧ (t.busRead 0xFF40).1 = 0x91 ∧ (t.busRead 0xFF41).1 = 0x86
      ∧ (t.busRead 0xFF42).1 = 0x00 ∧ (t.busRead 0xFF43).1 = 0x00 ∧ (t.busRead 0xFF44).1 = 0x00
      ∧ (t.busRead 0xFF45).1 = 0x00 ∧ (t.busRead 0xFF46).1 = 0xFF ∧ (t.busRead 0xFF47).1 = 0xFC
      ∧ (t.busRead 0xFF48).1 = 0xFF ∧ (t.busRead 0xFF49).1 = 0xFF ∧ (t.busRead 0xFF4A).1 = 0x00
      ∧ (t.busRead 0xFF4B).1 = 0x00 ∧ (t.busRead 0xFFFF).1 = 0x00
      ∧ t.timer.counter = 0xABCC ∧ t.timer.signal = false ∧ t.serial.bits = 0 ∧ t.serial.clock = 0
      ∧ t.dma.remaining = 0 ∧ t.ppu.dot = 0 ∧ t.ppu.mode = .oamScan ∧ t.ppu.statLine = false
      ∧ t.ppu.windowLine = 0 ∧ t.ppu.frameReady = false
      ∧ t.joypad.keys = s.joypad.keys ∧ t.joypad.sel = 0 ∧ t.joypad.linesPrev = t.joypad.lines
      ∧ t.cart = c ∧ (∀ i, i < f.len → t.byteAt (romBase + i) = f.at i)
      ∧ (∀ p, internalAddr p = true → t.byteAt p = initMem.read p)
      ∧ t.cart.status = .loaded ∧ t.cart.romBanks = f.len / 16384
      ∧ t.cart.header =
        { title := (List.range 16).map fun i => f.at (0x0134 + i)
          typeCode := f.at 0x0147, romCode := f.at 0x0148, ramCode := f.at 0x0149, destination := f.at 0x014A
          headerChecksum := f.at 0x014D, globalChecksum := word16 (f.at 0x014E) (f.at 0x014F) }
      ∧ (∃ k, cartTypeOf (f.at 0x0147) = some k ∧ t.cart.mbc.variant = k.variant ∧ t.cart.battery = k.battery
        ∧ t.cart.rtc = k.rtc ∧ t.cart.rumble = k.rumble
        ∧ (k.variant = .mbc2 → t.cart.ramSize = 512)
        ∧ (k.variant ≠ .mbc2 → ramSizeOf (f.at 0x0149) = some t.cart.ramSize))
      ∧ (∀ m, t.cart.mbc = .mbc1 m → m = { ramEnable := false, bank1 := 1, bank2 := 0, mode := false })
      ∧ (∀ m, t.cart.mbc = .mbc2 m → m = { ramEnable := false, romBank := 1 })
      ∧ (∀ m, t.cart.mbc = .mbc3 m →
        m.ramEnable = false ∧ m.romBank = 1 ∧ m.sel = 0 ∧ m.latchPrev = 0xFF ∧ m.latched = m.live
          ∧ m.live = { s := 0, m := 0, h := 0, dl := 0, day8 := false, halt := false, carry := false })
      ∧ (∀ m, t.cart.mbc = .mbc5 m → m.ramEnable = false ∧ m.romBank = 1 ∧ m.ramBank = 0)
      ∧ ∀ i, i < t.cart.ramSize →
        (t.byteAt (cartRamBase + i)).toNat =
          if t.cart.mbc.variant = .mbc2 then (initCartRam.read i).toNat % 16 else (initCartRam.read i).toNat

/-- The machine right after construction satisfies the invariant, holds no cartridge (R730, R51), and takes no step
(R782). That its CPU and devices hold the values of R53 is the model's choice (log entry 1). -/
def Obligations.InvariantHoldsAtReset : Prop :=
  State.reset.Inv ∧ State.reset.cart.status = .noRomLoaded ∧ State.reset.joypad.keys = Keys.released
    ∧ step State.reset = .next State.reset

/-- A successful `loadGame` establishes the invariant, whatever state it starts from. -/
def Obligations.LoadEstablishesInvariant : Prop :=
  ∀ (s : State) (f : RomImage) (c : Cart) (initMem initCartRam : Memory), f.parse = .ok c →
    (s.loadGame (some f) initMem initCartRam).2.Inv

/-- Every step keeps the invariant, from every state that has it. -/
def Obligations.StepKeepsInvariant : Prop := ∀ s t : State, s.Inv → step s = .next t → t.Inv

/-- Every step answers a next state: the machine has no instruction without a meaning, and its faults are state. With a
fault set (R41, R640) or with no cartridge loaded (R782) no step happens. -/
def Obligations.StepAlwaysAnswers : Prop :=
  ∀ s : State, (∃ t, step s = .next t) ∧ (s.fault ≠ none ∨ s.cart.status ≠ .loaded → step s = .next s)

/-- R640: in a machine with a cartridge and no fault, whose CPU runs and takes no interrupt (R612), when the bytes at PC
decode to a whole instruction, the step is that instruction's `exec`, then `EiDelayUpdate()` and as many T-cycles of the
devices as the instruction cost (R644; `FrameTiming` says what they change); when `exec` sets a fault, the step only
sets it (R602). Two clauses are the model's choice: after `STOP` no device moves (log entry 8, DEDUCED, unsafe: R640
advances them, R510 and R639 do not); and the record of the step, cleared at its start, and in the fault clause the used
draws are log entries 6 and 21. -/
def Obligations.StepRunsDecodedInstruction : Prop :=
  ∀ (s u t : State) (i : Instr), s.cart.status = .loaded → s.fault = none → s.cpu.mode = .running →
    u = ({ s with info := { cycles := 0, instPc := 0, dmaWritten := false, calls := [] } } : State).joypadSample →
    s.cpu.ime = false ∨ u.pending = false →
    decode u.fetchInstr.1 = .ok i → i.WellFormed → exec i u.fetchInstr.2 = .next t →
    (t.fault = none → t.cpu.mode ≠ .stopped → step s = .next (advanceDevices t.info.cycles t.eiDelayUpdate))
      ∧ (t.fault = none → t.cpu.mode = .stopped → step s = .next t.eiDelayUpdate)
      ∧ ∀ r, t.fault = some r → step s = .next { s with info := u.info, fault := some r, draws := t.draws }

/-- R36, R509, `00_scope.md` R9: the fetch reads as many bytes as the opcode needs, at PC and on, and leaves PC past
them; after the halt bug the opcode byte is read without moving PC. The three bytes at PC are read without a draw. -/
def Obligations.FetchReadsInstructionAtPc : Prop :=
  ∀ s : State, (∀ k, k < 3 → (s.memRead (s.cpu.pc + BitVec.ofNat 16 k)).2.draws = s.draws) →
    (s.cpu.haltBug = false →
      s.fetchInstr.1 =
          (List.range (instrLength (s.memRead s.cpu.pc).1)).map (fun k => (s.memRead (s.cpu.pc + BitVec.ofNat 16 k)).1)
        ∧ s.fetchInstr.2 =
          { s with
            cpu := { s.cpu with pc := s.cpu.pc + BitVec.ofNat 16 (instrLength (s.memRead s.cpu.pc).1) }
            info := { s.info with instPc := s.cpu.pc } })
      ∧ (s.cpu.haltBug = true →
        s.fetchInstr.1 =
            (s.memRead s.cpu.pc).1 ::
              (List.range (instrLength (s.memRead s.cpu.pc).1 - 1)).map
                (fun k => (s.memRead (s.cpu.pc + BitVec.ofNat 16 k)).1)
          ∧ s.fetchInstr.2 =
            { s with
              cpu := { s.cpu with
                pc := s.cpu.pc + BitVec.ofNat 16 (instrLength (s.memRead s.cpu.pc).1 - 1)
                haltBug := false }
              info := { s.info with instPc := s.cpu.pc } })

/-- From R602: a step that raises a fault changes nothing else of the spec's state. That the model's record of the step is
cleared and its draws stay used is the model's choice (log entry 6, DESIGN CHOICE). -/
def Obligations.FaultedStepChangesOnlyTheFault : Prop :=
  ∀ (s t : State) (r : FaultRecord), s.fault = none → step s = .next t → t.fault = some r →
    t = { s.beginStep with fault := some r, draws := t.draws }

/-- R191, R109, R201: no step changes the ROM image, nor of the cartridge anything but the values of its MBC registers:
the header, the variant, `rom_banks`, `ram_size`, the status and the battery, clock and rumble flags stay. -/
def Obligations.StepKeepsCartridgeImage : Prop :=
  ∀ s t : State, s.Inv → step s = .next t →
    (∀ i, t.byteAt (romBase + i) = s.byteAt (romBase + i)) ∧ t.cart = { s.cart with mbc := t.cart.mbc }
      ∧ t.cart.mbc.variant = s.cart.mbc.variant

/-- R600, R340: outside OAM DMA every legal instruction completes, without a fault, at a cost of at least 4 T-cycles. -/
def Obligations.LegalInstructionsCompleteOutsideDma : Prop :=
  ∀ (i : Instr) (s : State), ¬IsIllegal i → s.dma.remaining = 0 →
    Completes i s fun t => t.fault = s.fault ∧ s.info.cycles + 4 ≤ t.info.cycles

/-! ## Registers and memory -/

/-- R31, R33: a pair is its two registers, the first in the high byte; a write to one of the four views, AF among them,
writes both its halves and no other register, and a write to a half no other half; bits 3..0 of F always read 0. -/
def Obligations.RegisterPairsAlias : Prop :=
  (∀ s : State, (s.pair .bc).toNat = (s.reg .b).toNat * 256 + (s.reg .c).toNat
      ∧ (s.pair .de).toNat = (s.reg .d).toNat * 256 + (s.reg .e).toNat
      ∧ (s.pair .hl).toNat = (s.reg .h).toNat * 256 + (s.reg .l).toNat
      ∧ (s.pair2 .af).toNat = (s.reg .a).toNat * 256 + s.flags.toByte.toNat)
    ∧ (∀ (s : State) (p q : Rp) (v : Addr), (s.setPair p v).pair q = if q = p then v else s.pair q)
    ∧ (∀ (s : State) (r q : Reg8) (v : Byte), (s.setReg r v).reg q = if q = r then v else s.reg q)
    ∧ (∀ (s : State) (p q : Rp2) (v : Addr),
      (s.setPair2 p v).pair2 q = if q = p then (if p = .af then v &&& 0xFFF0 else v) else s.pair2 q)
    ∧ (∀ (s : State) (v : Addr), ((s.setPair2 .af v).reg .a).toNat = v.toNat / 256
      ∧ (s.setPair2 .af v).flags.toByte.toNat = v.toNat % 256 / 16 * 16
      ∧ ∀ r, r ≠ .a → (s.setPair2 .af v).reg r = s.reg r)
    ∧ (∀ (s : State) (p : Rp) (v : Addr), (s.setPair p v).reg .a = s.reg .a ∧ (s.setPair p v).flags = s.flags)
    ∧ (∀ (s : State) (r : Reg8) (v : Byte), (s.setReg r v).flags = s.flags)
    ∧ (∀ (s : State) (f : Flags), (s.setFlags f).flags = f ∧ ∀ r, (s.setFlags f).reg r = s.reg r)
    ∧ ∀ v : Byte, (Flags.ofByte v).toByte = v &&& 0xF0

/-- R112 to R114, R141: a CPU read of a byte of WRAM, of its echo or of HRAM gives the byte last written to that byte,
under either of its addresses, and a write keeps the canonical form of the memory. -/
def Obligations.ReadGivesLastByteWritten : Prop :=
  ∀ (s : State) (a b : Addr) (v : Byte) (p q : Nat), s.mem.wf = true → s.dmaHolds b = false →
    ramPlace a = some p → ramPlace b = some q →
    (s.busWrite a v).mem.wf = true ∧ ((s.busWrite a v).memRead b).1 = if q = p then v else (s.memRead b).1

/-! ## Loads and stores (`spec/40_loads.md`) -/

/-- R300, R301: `LD r,r'` and `LD r,n8`. -/
def Obligations.LoadFromRegisterOrImmediate : Prop :=
  (∀ dst src : Reg8, encode (.ldRR dst src) = [opc (64 + 8 * codeR dst + codeR src)] ∧
    ∀ s, Completes (.ldRR dst src) s fun t =>
      t.reg dst = s.reg src ∧ RegsKept [dst] s t ∧ FlagsKept s t ∧ RegisterOnly 4 s t)
  ∧ ∀ (dst : Reg8) (n : Byte), encode (.ldRN dst n) = [opc (6 + 8 * codeR dst), n] ∧
    ∀ s, Completes (.ldRN dst n) s fun t => t.reg dst = n ∧ RegsKept [dst] s t ∧ FlagsKept s t ∧ RegisterOnly 8 s t

/-- R302, R305, R306, R309, R311, R313: the loads of a byte from memory into a register. -/
def Obligations.LoadFromMemory : Prop :=
  (∀ r, encode (.ldRHL r) = [opc (70 + 8 * codeR r)] ∧ LoadsInto (.ldRHL r) r (fun s => s.pair .hl) 8)
    ∧ (encode .ld_a_atBC = [0x0A] ∧ LoadsInto .ld_a_atBC .a (fun s => s.pair .bc) 8)
    ∧ (encode .ld_a_atDE = [0x1A] ∧ LoadsInto .ld_a_atDE .a (fun s => s.pair .de) 8)
    ∧ (∀ n, encode (.ld_a_atN16 n) = [0xFA, loByte n, hiByte n] ∧ LoadsInto (.ld_a_atN16 n) .a (fun _ => n) 16)
    ∧ (∀ n, encode (.ldh_a_atA8 n) = [0xF0, n]
      ∧ LoadsInto (.ldh_a_atA8 n) .a (fun _ => BitVec.ofNat 16 (0xFF00 + n.toNat)) 12)
    ∧ (encode .ld_a_atC = [0xF2]
      ∧ LoadsInto .ld_a_atC .a (fun s => BitVec.ofNat 16 (0xFF00 + (s.reg .c).toNat)) 8)

/-- R303, R304, R307, R308, R310, R312, R314: the stores of a byte to memory, where OAM DMA does not hold the bus. -/
def Obligations.StoreToMemory : Prop :=
  (∀ r, encode (.ldHLR r) = [opc (112 + codeR r)] ∧ StoresFrom (.ldHLR r) (fun s => s.pair .hl) (fun s => s.reg r) 8)
    ∧ (∀ n, encode (.ld_atHL_n8 n) = [0x36, n] ∧ StoresFrom (.ld_atHL_n8 n) (fun s => s.pair .hl) (fun _ => n) 12)
    ∧ (encode .ld_atBC_a = [0x02] ∧ StoresFrom .ld_atBC_a (fun s => s.pair .bc) (fun s => s.reg .a) 8)
    ∧ (encode .ld_atDE_a = [0x12] ∧ StoresFrom .ld_atDE_a (fun s => s.pair .de) (fun s => s.reg .a) 8)
    ∧ (∀ n, encode (.ld_atN16_a n) = [0xEA, loByte n, hiByte n]
      ∧ StoresFrom (.ld_atN16_a n) (fun _ => n) (fun s => s.reg .a) 16)
    ∧ (∀ n, encode (.ldh_atA8_a n) = [0xE0, n]
      ∧ StoresFrom (.ldh_atA8_a n) (fun _ => BitVec.ofNat 16 (0xFF00 + n.toNat)) (fun s => s.reg .a) 12)
    ∧ (encode .ld_atC_a = [0xE2]
      ∧ StoresFrom .ld_atC_a (fun s => BitVec.ofNat 16 (0xFF00 + (s.reg .c).toNat)) (fun s => s.reg .a) 8)

/-- R120, R340, R476, R601: every storing instruction faults where OAM DMA holds the address it writes, and nothing else
of its effect happens; so do the pushes of an interrupt's dispatch (R615). The stores that are not named, `LDH (a8),A`
and `LD (C),A`, write only to FF00 and above, where OAM DMA holds nothing. Two points are the model's choice: the record
of a 0xCB-page instruction holds the opcode byte 0xCB (log entry 7, DEDUCED, unsafe), and the draws of the faulting
instruction stay used (log entry 6). -/
def Obligations.StoreDuringDmaFaults : Prop :=
  (∀ r, StoreFaults (.ldHLR r) (fun s => s.pair .hl)) ∧ (∀ n, StoreFaults (.ld_atHL_n8 n) (fun s => s.pair .hl))
    ∧ StoreFaults .ld_atBC_a (fun s => s.pair .bc) ∧ StoreFaults .ld_atDE_a (fun s => s.pair .de)
    ∧ (∀ n, StoreFaults (.ld_atN16_a n) (fun _ => n)) ∧ StoreFaults .ld_atHLI_a (fun s => s.pair .hl)
    ∧ StoreFaults .ld_atHLD_a (fun s => s.pair .hl) ∧ StoreFaults .inc_atHL (fun s => s.pair .hl)
    ∧ StoreFaults .dec_atHL (fun s => s.pair .hl) ∧ (∀ o, StoreFaults (.rotHL o) (fun s => s.pair .hl))
    ∧ (∀ b, StoreFaults (.resHL b) (fun s => s.pair .hl)) ∧ (∀ b, StoreFaults (.setHL b) (fun s => s.pair .hl))
    ∧ (∀ n, TwoStoresFault (.ld_atN16_sp n) (fun _ => n) (fun _ => n + 1))
    ∧ (∀ p, TwoStoresFault (.push p) (fun s => s.cpu.sp - 1) (fun s => s.cpu.sp - 2))
    ∧ (∀ n, TwoStoresFault (.call_n16 n) (fun s => s.cpu.sp - 1) (fun s => s.cpu.sp - 2))
    ∧ (∀ y, TwoStoresFault (.rst y) (fun s => s.cpu.sp - 1) (fun s => s.cpu.sp - 2))
    ∧ (∀ (cnd : Cond) (n : Addr) (s : State), s.flags.cond cnd = true →
      TwoWritesFault (.callCc cnd n) s (s.cpu.sp - 1) (s.cpu.sp - 2))
    ∧ ∀ (s : State) (a : Addr),
      (s.dmaHolds (s.cpu.sp - 1) = true ∧ a = s.cpu.sp - 1
        ∨ s.dmaHolds (s.cpu.sp - 1) = false ∧ s.dmaHolds (s.cpu.sp - 2) = true ∧ a = s.cpu.sp - 2) →
      ∃ e, s.dispatchInterrupt = .error e
        ∧ e.record =
          { kind := .dmaBusConflict, pc := if s.cpu.haltBug = true then s.cpu.pc - 1 else s.cpu.pc, addr := a, opcode := 0x00 }

/-- R315 to R318: the four accumulator transfers that use HL and then add or subtract 1. -/
def Obligations.LoadAndStoreThenStepHL : Prop :=
  (encode .ld_a_atHLI = [0x2A] ∧ encode .ld_a_atHLD = [0x3A] ∧ encode .ld_atHLI_a = [0x22] ∧ encode .ld_atHLD_a = [0x32])
    ∧ (∀ s : State, Completes .ld_a_atHLI s fun t =>
      t.reg .a = (s.memRead (s.pair .hl)).1 ∧ t.pair .hl = s.pair .hl + 1 ∧ RegsKept [.a, .h, .l] s t ∧ FlagsKept s t
        ∧ ReadsOnly 8 (s.pair .hl) s t)
    ∧ (∀ s : State, Completes .ld_a_atHLD s fun t =>
      t.reg .a = (s.memRead (s.pair .hl)).1 ∧ t.pair .hl = s.pair .hl - 1 ∧ RegsKept [.a, .h, .l] s t ∧ FlagsKept s t
        ∧ ReadsOnly 8 (s.pair .hl) s t)
    ∧ (∀ s : State, s.mem.wf = true → s.dmaHolds (s.pair .hl) = false → Completes .ld_atHLI_a s fun t =>
      t.pair .hl = s.pair .hl + 1 ∧ CpuKept [.h, .l] s t ∧ SpKept s t ∧ PcKept s t
        ∧ StoresByte 8 (s.pair .hl) (s.reg .a) s t)
    ∧ ∀ s : State, s.mem.wf = true → s.dmaHolds (s.pair .hl) = false → Completes .ld_atHLD_a s fun t =>
      t.pair .hl = s.pair .hl - 1 ∧ CpuKept [.h, .l] s t ∧ SpKept s t ∧ PcKept s t
        ∧ StoresByte 8 (s.pair .hl) (s.reg .a) s t

/-- R320 to R322: `LD rr,n16`, `LD SP,HL`, and `LD (n16),SP`, which stores the low byte of SP at the address and then the
high byte at the next one. -/
def Obligations.SixteenBitLoads : Prop :=
  (∀ (p : Rp) (n : Addr), encode (.ldRpN p n) = [opc (1 + 16 * codeRp p), loByte n, hiByte n] ∧
    ∀ s, Completes (.ldRpN p n) s fun t =>
      t.pair p = n ∧ CpuKept (regsOfRp p) s t ∧ (p ≠ .sp → SpKept s t) ∧ PcKept s t ∧ NoDraw s t ∧ Quiet 12 s t)
  ∧ (encode .ld_sp_hl = [0xF9] ∧ ∀ s, Completes .ld_sp_hl s fun t =>
      t.cpu.sp = s.pair .hl ∧ CpuKept [] s t ∧ PcKept s t ∧ NoDraw s t ∧ Quiet 8 s t)
  ∧ ∀ n : Addr, encode (.ld_atN16_sp n) = [0x08, loByte n, hiByte n] ∧
    ∀ s : State, s.mem.wf = true → s.dmaHolds n = false → s.dmaHolds (n + 1) = false →
      Completes (.ld_atN16_sp n) s fun t =>
        t.cpu = s.cpu ∧ StoresTwo 20 n (loByte s.cpu.sp) (n + 1) (hiByte s.cpu.sp) s t

/-- R330, R331: `PUSH rr`. -/
def Obligations.PushStoresPairBelowStack : Prop :=
  ∀ p : Rp2, encode (.push p) = [opc (197 + 16 * codeRp2 p)] ∧
    ∀ s : State, s.mem.wf = true → StackFree s →
      Completes (.push p) s fun t => Pushes 16 (s.pair2 p) s t ∧ CpuKept [] s t ∧ PcKept s t

/-- R332, R335: `POP rr` reads the low byte at SP and the high byte at SP + 1; `POP AF` discards the low four bits. -/
def Obligations.PopLoadsPairFromStack : Prop :=
  ∀ p : Rp2, encode (.pop p) = [opc (193 + 16 * codeRp2 p)] ∧
    ∀ s : State, Completes (.pop p) s fun t =>
      t.pair2 p = (word16 ((s.memRead s.cpu.sp).2.memRead (s.cpu.sp + 1)).1 (s.memRead s.cpu.sp).1
          &&& if p = .af then 0xFFF0 else 0xFFFF)
        ∧ t.cpu.sp = s.cpu.sp + 2 ∧ RegsKept (regsOfRp2 p) s t ∧ (p ≠ .af → FlagsKept s t) ∧ PcKept s t
        ∧ t.draws = ((s.memRead s.cpu.sp).2.memRead (s.cpu.sp + 1)).2.draws ∧ Quiet 12 s t

/-! ## Arithmetic (`spec/41_alu8.md`, `42_alu16.md`) -/

/-- R350 to R375: the eight operations on A with a register, the byte at HL or an immediate. -/
def Obligations.EightBitArithmetic : Prop :=
  (∀ (op : AluOp) (r : Reg8), encode (.aluR op r) = [opc (128 + 8 * codeAlu op + codeR r)] ∧
    ∀ s, Completes (.aluR op r) s fun t =>
      AluEffect op (s.reg .a) (s.reg r) s.flags (t.reg .a) t.flags ∧ RegsKept [.a] s t ∧ RegisterOnly 4 s t)
  ∧ (∀ op : AluOp, encode (.aluHL op) = [opc (134 + 8 * codeAlu op)] ∧
    ∀ s, Completes (.aluHL op) s fun t =>
      AluEffect op (s.reg .a) (s.memRead (s.pair .hl)).1 s.flags (t.reg .a) t.flags ∧ RegsKept [.a] s t
        ∧ ReadsOnly 8 (s.pair .hl) s t)
  ∧ ∀ (op : AluOp) (n : Byte), encode (.aluN op n) = [opc (198 + 8 * codeAlu op), n] ∧
    ∀ s, Completes (.aluN op n) s fun t =>
      AluEffect op (s.reg .a) n s.flags (t.reg .a) t.flags ∧ RegsKept [.a] s t ∧ RegisterOnly 8 s t

/-- R376 to R379: `INC` and `DEC` of a register and of the byte at HL; C is unchanged. -/
def Obligations.EightBitIncrementDecrement : Prop :=
  (∀ r : Reg8, (encode (.incR r) = [opc (4 + 8 * codeR r)] ∧ encode (.decR r) = [opc (5 + 8 * codeR r)]) ∧
    ∀ s, (Completes (.incR r) s fun t =>
        IncEffect (s.reg r) s.flags (t.reg r) t.flags ∧ RegsKept [r] s t ∧ RegisterOnly 4 s t)
      ∧ Completes (.decR r) s fun t =>
        DecEffect (s.reg r) s.flags (t.reg r) t.flags ∧ RegsKept [r] s t ∧ RegisterOnly 4 s t)
  ∧ (encode .inc_atHL = [0x34] ∧ encode .dec_atHL = [0x35])
  ∧ ∀ s : State, s.mem.wf = true → s.dmaHolds (s.pair .hl) = false →
    (Completes .inc_atHL s fun t => ∃ v,
      IncEffect (s.memRead (s.pair .hl)).1 s.flags v t.flags
        ∧ StoresByte 12 (s.pair .hl) v (s.memRead (s.pair .hl)).2 t ∧ RegsKept [] s t ∧ SpKept s t ∧ PcKept s t
        ∧ ControlKept s t)
      ∧ Completes .dec_atHL s fun t => ∃ v,
        DecEffect (s.memRead (s.pair .hl)).1 s.flags v t.flags
          ∧ StoresByte 12 (s.pair .hl) v (s.memRead (s.pair .hl)).2 t ∧ RegsKept [] s t ∧ SpKept s t ∧ PcKept s t
          ∧ ControlKept s t

/-- R380 to R383: `DAA`, `CPL`, `SCF` and `CCF`. -/
def Obligations.AccumulatorAndCarryAdjustments : Prop :=
  (encode .daa = [0x27] ∧ encode .cpl = [0x2F] ∧ encode .scf = [0x37] ∧ encode .ccf = [0x3F])
    ∧ ∀ s : State,
      (Completes .daa s fun t =>
        DaaEffect (s.reg .a) s.flags (t.reg .a) t.flags ∧ RegsKept [.a] s t ∧ RegisterOnly 4 s t)
      ∧ (Completes .cpl s fun t =>
        (t.reg .a).toNat = 255 - (s.reg .a).toNat ∧ t.flags = { s.flags with n := true, h := true } ∧ RegsKept [.a] s t
          ∧ RegisterOnly 4 s t)
      ∧ (Completes .scf s fun t =>
        t.flags = { z := s.flags.z, n := false, h := false, c := true } ∧ RegsKept [] s t ∧ RegisterOnly 4 s t)
      ∧ Completes .ccf s fun t =>
        t.flags = { z := s.flags.z, n := false, h := false, c := !s.flags.c } ∧ RegsKept [] s t ∧ RegisterOnly 4 s t

/-- R352, R358, R380 together: for two packed decimal bytes, `ADD A,B` then `DAA` leaves the packed decimal sum modulo 100
with C the decimal carry, and `SUB B` then `DAA` the packed decimal difference modulo 100 with C the decimal borrow. -/
def Obligations.DecimalArithmetic : Prop :=
  ∀ (s : State) (x y : Nat), x < 100 → y < 100 → s.reg .a = bcd x → s.reg .b = bcd y →
    (Completes .add_a_b s fun t => Completes .daa t fun u =>
      u.reg .a = bcd ((x + y) % 100) ∧ u.flags.c = decide (100 ≤ x + y) ∧ u.flags.z = decide ((x + y) % 100 = 0))
    ∧ Completes .sub_b s fun t => Completes .daa t fun u =>
      u.reg .a = bcd ((100 + x - y) % 100) ∧ u.flags.c = decide (x < y) ∧ u.flags.z = decide (x = y)

/-- R400 to R404: `INC rr`, `DEC rr`, `ADD HL,rr`, `ADD SP,e8` and `LD HL,SP+e8`. -/
def Obligations.SixteenBitArithmetic : Prop :=
  (∀ p : Rp, (encode (.incRp p) = [opc (3 + 16 * codeRp p)] ∧ encode (.decRp p) = [opc (11 + 16 * codeRp p)]
      ∧ encode (.addHLRp p) = [opc (9 + 16 * codeRp p)]) ∧
    ∀ s, (Completes (.incRp p) s fun t =>
        (t.pair p).toNat = ((s.pair p).toNat + 1) % 65536 ∧ CpuKept (regsOfRp p) s t ∧ (p ≠ .sp → SpKept s t)
          ∧ PcKept s t ∧ NoDraw s t ∧ Quiet 8 s t)
      ∧ (Completes (.decRp p) s fun t =>
        (t.pair p).toNat = ((s.pair p).toNat + 65535) % 65536 ∧ CpuKept (regsOfRp p) s t ∧ (p ≠ .sp → SpKept s t)
          ∧ PcKept s t ∧ NoDraw s t ∧ Quiet 8 s t)
      ∧ Completes (.addHLRp p) s fun t =>
        (t.pair .hl).toNat = ((s.pair .hl).toNat + (s.pair p).toNat) % 65536
          ∧ t.flags =
            { z := s.flags.z, n := false
              h := decide (4095 < (s.pair .hl).toNat % 4096 + (s.pair p).toNat % 4096)
              c := decide (65535 < (s.pair .hl).toNat + (s.pair p).toNat) }
          ∧ RegsKept [.h, .l] s t ∧ RegisterOnly 8 s t)
  ∧ ∀ e : Byte, (encode (.add_sp_e8 e) = [0xE8, e] ∧ encode (.ld_hl_sp_e8 e) = [0xF8, e]) ∧
    ∀ s, (Completes (.add_sp_e8 e) s fun t =>
        t.cpu.sp.toNat = spPlus s.cpu.sp e ∧ t.flags = spFlags s.cpu.sp e ∧ RegsKept [] s t ∧ PcKept s t ∧ NoDraw s t
          ∧ Quiet 16 s t)
      ∧ Completes (.ld_hl_sp_e8 e) s fun t =>
        (t.pair .hl).toNat = spPlus s.cpu.sp e ∧ t.flags = spFlags s.cpu.sp e ∧ RegsKept [.h, .l] s t
          ∧ RegisterOnly 12 s t

/-! ## Rotates, shifts and bits (`spec/43_rotate_shift_bit.md`) -/

/-- R430 to R433: the rotates of A on the base page, which always clear Z. -/
def Obligations.AccumulatorRotates : Prop :=
  (encode .rlca = [0x07] ∧ encode .rrca = [0x0F] ∧ encode .rla = [0x17] ∧ encode .rra = [0x1F])
    ∧ ∀ (i : Instr) (op : RotOp), (i, op) ∈ [(Instr.rlca, RotOp.rlc), (.rrca, .rrc), (.rla, .rl), (.rra, .rr)] →
      ∀ s, Completes i s fun t => ∃ out,
        RotEffect op (s.reg .a) s.flags.c (t.reg .a) out ∧ t.flags = { z := false, n := false, h := false, c := out }
          ∧ RegsKept [.a] s t ∧ RegisterOnly 4 s t

/-- R435 to R450: the rotates and shifts of a register and of the byte at HL. -/
def Obligations.RotatesAndShifts : Prop :=
  (∀ (op : RotOp) (r : Reg8), encode (.rotR op r) = [0xCB, opc (8 * codeRot op + codeR r)] ∧
    ∀ s, Completes (.rotR op r) s fun t => ∃ out,
      RotEffect op (s.reg r) s.flags.c (t.reg r) out ∧ t.flags = rotFlags (t.reg r) out ∧ RegsKept [r] s t
        ∧ RegisterOnly 8 s t)
  ∧ ∀ op : RotOp, encode (.rotHL op) = [0xCB, opc (8 * codeRot op + 6)] ∧
    ∀ s : State, s.mem.wf = true → s.dmaHolds (s.pair .hl) = false → Completes (.rotHL op) s fun t => ∃ v out,
      RotEffect op (s.memRead (s.pair .hl)).1 s.flags.c v out ∧ t.flags = rotFlags v out
        ∧ StoresByte 16 (s.pair .hl) v (s.memRead (s.pair .hl)).2 t ∧ RegsKept [] s t ∧ SpKept s t ∧ PcKept s t
        ∧ ControlKept s t

/-- R451, R452: `BIT b` of a register and of the byte at HL, which only reads. -/
def Obligations.BitTests : Prop :=
  (∀ (b : Idx8) (r : Reg8), encode (.bitR b r) = [0xCB, opc (64 + 8 * idxNat b + codeR r)] ∧
    ∀ s, Completes (.bitR b r) s fun t =>
      t.flags = { z := !(s.reg r).getLsbD (idxNat b), n := false, h := true, c := s.flags.c } ∧ RegsKept [] s t
        ∧ RegisterOnly 8 s t)
  ∧ ∀ b : Idx8, encode (.bitHL b) = [0xCB, opc (70 + 8 * idxNat b)] ∧
    ∀ s, Completes (.bitHL b) s fun t =>
      t.flags = { z := !(s.memRead (s.pair .hl)).1.getLsbD (idxNat b), n := false, h := true, c := s.flags.c }
        ∧ RegsKept [] s t ∧ ReadsOnly 12 (s.pair .hl) s t

/-- R453 to R456: `RES b` and `SET b` of a register and of the byte at HL. The write happens whatever the bit was. -/
def Obligations.BitResetAndSet : Prop :=
  (∀ (b : Idx8) (r : Reg8),
    (encode (.resR b r) = [0xCB, opc (128 + 8 * idxNat b + codeR r)]
      ∧ encode (.setR b r) = [0xCB, opc (192 + 8 * idxNat b + codeR r)]) ∧
    ∀ s, (Completes (.resR b r) s fun t =>
        (∀ k, k < 8 → (t.reg r).getLsbD k = if k = idxNat b then false else (s.reg r).getLsbD k)
          ∧ RegsKept [r] s t ∧ FlagsKept s t ∧ RegisterOnly 8 s t)
      ∧ Completes (.setR b r) s fun t =>
        (∀ k, k < 8 → (t.reg r).getLsbD k = if k = idxNat b then true else (s.reg r).getLsbD k)
          ∧ RegsKept [r] s t ∧ FlagsKept s t ∧ RegisterOnly 8 s t)
  ∧ ∀ b : Idx8,
    (encode (.resHL b) = [0xCB, opc (134 + 8 * idxNat b)] ∧ encode (.setHL b) = [0xCB, opc (198 + 8 * idxNat b)]) ∧
    ∀ s : State, s.mem.wf = true → s.dmaHolds (s.pair .hl) = false →
      (Completes (.resHL b) s fun t => ∃ v : Byte,
        (∀ k, k < 8 → v.getLsbD k = if k = idxNat b then false else (s.memRead (s.pair .hl)).1.getLsbD k)
          ∧ t.cpu = s.cpu ∧ StoresByte 16 (s.pair .hl) v (s.memRead (s.pair .hl)).2 t)
      ∧ Completes (.setHL b) s fun t => ∃ v : Byte,
        (∀ k, k < 8 → v.getLsbD k = if k = idxNat b then true else (s.memRead (s.pair .hl)).1.getLsbD k)
          ∧ t.cpu = s.cpu ∧ StoresByte 16 (s.pair .hl) v (s.memRead (s.pair .hl)).2 t

/-- R501, R266: the prefix fetches a second byte and is the 0xCB-page instruction of that byte, run with PC past it. -/
def Obligations.PrefixRunsSecondByte : Prop :=
  ∀ s : State, exec .prefix_cb s = exec (decodeCb (s.memRead s.cpu.pc).1) s.fetch8.2
    ∧ s.fetch8.2.cpu = { s.cpu with pc := s.cpu.pc + 1 }
    ∧ (s.dma.remaining = 0 → Completes .prefix_cb s fun t => t.fault = s.fault)

/-! ## Control transfer (`spec/44_control.md`) -/

/-- R470 to R474: the jumps, and what a condition not met leaves. -/
def Obligations.Jumps : Prop :=
  (∀ n, encode (.jp_n16 n) = [0xC3, loByte n, hiByte n] ∧ ∀ s, Completes (.jp_n16 n) s fun t =>
      t.cpu.pc = n ∧ CpuKept [] s t ∧ SpKept s t ∧ NoDraw s t ∧ Quiet 16 s t)
    ∧ (encode .jp_hl = [0xE9] ∧ ∀ s, Completes .jp_hl s fun t =>
      t.cpu.pc = s.pair .hl ∧ CpuKept [] s t ∧ SpKept s t ∧ NoDraw s t ∧ Quiet 4 s t)
    ∧ (∀ e, encode (.jr_e8 e) = [0x18, e] ∧ ∀ s, Completes (.jr_e8 e) s fun t =>
      t.cpu.pc.toNat = spPlus s.cpu.pc e ∧ CpuKept [] s t ∧ SpKept s t ∧ NoDraw s t ∧ Quiet 12 s t)
    ∧ (∀ (cnd : Cond) (n : Addr), encode (.jpCc cnd n) = [opc (194 + 8 * codeCc cnd), loByte n, hiByte n] ∧
      ∀ s, Completes (.jpCc cnd n) s fun t =>
        t.cpu.pc = (if s.flags.cond cnd then n else s.cpu.pc) ∧ CpuKept [] s t ∧ SpKept s t ∧ NoDraw s t
          ∧ Quiet (if s.flags.cond cnd then 16 else 12) s t)
    ∧ (∀ (cnd : Cond) (e : Byte), encode (.jrCc cnd e) = [opc (32 + 8 * codeCc cnd), e] ∧
      ∀ s, Completes (.jrCc cnd e) s fun t =>
        t.cpu.pc.toNat = (if s.flags.cond cnd then spPlus s.cpu.pc e else s.cpu.pc.toNat) ∧ CpuKept [] s t ∧ SpKept s t
          ∧ NoDraw s t ∧ Quiet (if s.flags.cond cnd then 12 else 8) s t)
    ∧ ∀ f : Flags, f.cond .nz = !f.z ∧ f.cond .z = f.z ∧ f.cond .nc = !f.c ∧ f.cond .c = f.c

/-- R475, R476, R480: the calls push the address after the call and go to their target; a call whose condition is not met
pushes nothing. -/
def Obligations.Calls : Prop :=
  (∀ n, encode (.call_n16 n) = [0xCD, loByte n, hiByte n] ∧
    ∀ s : State, s.mem.wf = true → StackFree s → Completes (.call_n16 n) s fun t =>
      t.cpu.pc = n ∧ Pushes 24 s.cpu.pc s t ∧ CpuKept [] s t)
  ∧ (∀ y, encode (.rst y) = [opc (199 + 8 * idxNat y)] ∧
    ∀ s : State, s.mem.wf = true → StackFree s → Completes (.rst y) s fun t =>
      t.cpu.pc.toNat = 8 * idxNat y ∧ Pushes 16 s.cpu.pc s t ∧ CpuKept [] s t)
  ∧ ∀ (cnd : Cond) (n : Addr), encode (.callCc cnd n) = [opc (196 + 8 * codeCc cnd), loByte n, hiByte n] ∧
    ∀ s : State,
      (s.flags.cond cnd = true → s.mem.wf = true → StackFree s → Completes (.callCc cnd n) s fun t =>
        t.cpu.pc = n ∧ Pushes 24 s.cpu.pc s t ∧ CpuKept [] s t)
      ∧ (s.flags.cond cnd = false → Completes (.callCc cnd n) s fun t =>
        RegsKept [] s t ∧ FlagsKept s t ∧ RegisterOnly 12 s t)

/-- R477 to R479: the returns pop PC; `RETI` sets IME at once and clears `ei_delay`; a return whose condition is not met
only goes on. -/
def Obligations.Returns : Prop :=
  (encode .ret = [0xC9] ∧ encode .reti = [0xD9])
    ∧ (∀ s : State, Completes .ret s fun t =>
      t.cpu.pc = word16 ((s.memRead s.cpu.sp).2.memRead (s.cpu.sp + 1)).1 (s.memRead s.cpu.sp).1
        ∧ t.cpu.sp = s.cpu.sp + 2 ∧ CpuKept [] s t
        ∧ t.draws = ((s.memRead s.cpu.sp).2.memRead (s.cpu.sp + 1)).2.draws ∧ Quiet 16 s t)
    ∧ (∀ s : State, Completes .reti s fun t =>
      t.cpu.pc = word16 ((s.memRead s.cpu.sp).2.memRead (s.cpu.sp + 1)).1 (s.memRead s.cpu.sp).1
        ∧ t.cpu.sp = s.cpu.sp + 2 ∧ t.cpu.ime = true ∧ t.cpu.eiDelay = 0 ∧ t.cpu.mode = s.cpu.mode
        ∧ t.cpu.haltBug = s.cpu.haltBug ∧ RegsKept [] s t ∧ FlagsKept s t
        ∧ t.draws = ((s.memRead s.cpu.sp).2.memRead (s.cpu.sp + 1)).2.draws ∧ DevicesKept s t ∧ MemoryKept s t
        ∧ Costs 16 s t)
    ∧ ∀ cnd : Cond, encode (.retCc cnd) = [opc (192 + 8 * codeCc cnd)] ∧ ∀ s : State,
      (s.flags.cond cnd = true → Completes (.retCc cnd) s fun t =>
        t.cpu.pc = word16 ((s.memRead s.cpu.sp).2.memRead (s.cpu.sp + 1)).1 (s.memRead s.cpu.sp).1
          ∧ t.cpu.sp = s.cpu.sp + 2 ∧ CpuKept [] s t
          ∧ t.draws = ((s.memRead s.cpu.sp).2.memRead (s.cpu.sp + 1)).2.draws ∧ Quiet 20 s t)
      ∧ (s.flags.cond cnd = false → Completes (.retCc cnd) s fun t =>
        RegsKept [] s t ∧ FlagsKept s t ∧ RegisterOnly 8 s t)

/-- R475 and R477, R330 and R332 together, for a stack in WRAM outside OAM DMA: a `CALL` and then a `RET` come back with
SP as it was, and a `PUSH` and then a `POP` move a pair. -/
def Obligations.StackRoundTrip : Prop :=
  ∀ s : State, s.mem.wf = true → s.dma.remaining = 0 → 0xC002 ≤ s.cpu.sp.toNat → s.cpu.sp.toNat ≤ 0xE000 →
    (∀ n, Completes (.call_n16 n) s fun t => t.cpu.pc = n ∧ Completes .ret t fun u =>
      u.cpu.pc = s.cpu.pc ∧ u.cpu.sp = s.cpu.sp)
    ∧ ∀ p q : Rp2, Completes (.push p) s fun t => Completes (.pop q) t fun u =>
      u.pair2 q = (s.pair2 p &&& if q = .af then 0xFFF0 else 0xFFFF) ∧ u.cpu.sp = s.cpu.sp

/-! ## System instructions (`spec/45_system.md`) -/

/-- R500, R503, R506, R642: `NOP`, `DI`, `EI`, and the delay of `EI`: 2 after it, 1 after the update that follows it, and
IME after the update that follows the next instruction. -/
def Obligations.NopAndInterruptEnable : Prop :=
  (encode .nop = [0x00] ∧ encode .di = [0xF3] ∧ encode .ei = [0xFB])
    ∧ (∀ s, Completes .nop s fun t => RegsKept [] s t ∧ FlagsKept s t ∧ RegisterOnly 4 s t)
    ∧ (∀ s, Completes .di s fun t =>
      t.cpu = { s.cpu with ime := false, eiDelay := 0 } ∧ NoDraw s t ∧ DevicesKept s t ∧ MemoryKept s t ∧ Costs 4 s t)
    ∧ (∀ s : State, Completes .ei s fun t =>
      t.cpu = (if s.cpu.ime = false ∧ s.cpu.eiDelay = 0 then { s.cpu with eiDelay := 2 } else s.cpu)
        ∧ NoDraw s t ∧ DevicesKept s t ∧ MemoryKept s t ∧ Costs 4 s t)
    ∧ ∀ s : State,
      (s.cpu.eiDelay = 2 → s.eiDelayUpdate = { s with cpu := { s.cpu with eiDelay := 1 } })
      ∧ (s.cpu.eiDelay = 1 → s.eiDelayUpdate = { s with cpu := { s.cpu with ime := true, eiDelay := 0 } })
      ∧ (s.cpu.eiDelay = 0 → s.eiDelayUpdate = s)

/-- R507, R508, R510: `HALT` halts, or arms the halt bug when IME is 0 and an enabled request is pending; `STOP` stops,
with the timer counter cleared and the edge that this causes (R624). -/
def Obligations.HaltAndStop : Prop :=
  (encode .halt = [0x76] ∧ ∀ b, encode (.stop b) = [0x10, b])
    ∧ (∀ s : State, Completes .halt s fun t =>
      t.cpu =
          (if s.cpu.ime = false ∧ s.irq.ie &&& s.irq.req.setWidth 8 &&& 0x1F ≠ 0 then
            { s.cpu with haltBug := true }
          else { s.cpu with mode := .halted })
        ∧ NoDraw s t ∧ DevicesKept s t ∧ MemoryKept s t ∧ Costs 4 s t)
    ∧ ∀ (b : Byte) (s : State), Completes (.stop b) s fun t =>
      t.cpu = { s.cpu with mode := .stopped } ∧ t.timer.counter = 0 ∧ t.timer.signal = false
        ∧ t.timer.tac = s.timer.tac ∧ t.timer.tma = s.timer.tma
        ∧ t.timer.tima =
          (if s.timer.signal = true then
            if s.timer.tima = 0xFF then s.timer.tma else s.timer.tima + 1
          else s.timer.tima)
        ∧ t.irq.ie = s.irq.ie
        ∧ t.irq.req = (if s.timer.signal = true ∧ s.timer.tima = 0xFF then s.irq.req ||| 0b00100 else s.irq.req)
        ∧ t.serial = s.serial ∧ t.joypad = s.joypad ∧ t.ppu = s.ppu ∧ t.dma = s.dma ∧ t.cart = s.cart
        ∧ NoDraw s t ∧ MemoryKept s t ∧ Costs 4 s t

/-- R502, R269, R601: each of the eleven illegal opcodes sets the fault record with the opcode's address and byte, and
changes nothing else. -/
def Obligations.IllegalOpcodesFault : Prop :=
  ∀ (o : IllegalOp) (s : State), encode (.illegal o) = [codeIllegal o]
    ∧ exec (.illegal o) s =
      .next
        { s with
          fault := some { kind := .illegalOpcode, pc := s.info.instPc, addr := s.info.instPc, opcode := codeIllegal o } }

/-! ## Interrupts and the waiting modes (`spec/60_exceptions.md`) -/

/-- R612 to R614: a dispatch serves the lowest request that is set and enabled: it clears that request, IME and the halt
bug, pushes the return address and goes to the vector; nothing else of the CPU changes. `pending()` is that some request
is set and enabled. -/
def Obligations.DispatchServesLowestRequest : Prop :=
  (∀ s : State, s.pending = true ↔ ∃ i, i < 5 ∧ s.irq.ie.getLsbD i = true ∧ s.irq.req.getLsbD i = true)
  ∧ ∀ s : State, s.mem.wf = true → s.pending = true → StackFree s →
    ∃ t i, s.dispatchInterrupt = .ok t ∧ i < 5 ∧ s.irq.ie.getLsbD i = true ∧ s.irq.req.getLsbD i = true
      ∧ (∀ j, j < i → (s.irq.ie.getLsbD j && s.irq.req.getLsbD j) = false)
      ∧ t.cpu.pc.toNat = 0x40 + 8 * i ∧ t.cpu.ime = false ∧ t.cpu.haltBug = false ∧ t.cpu.eiDelay = s.cpu.eiDelay
      ∧ t.cpu.mode = s.cpu.mode ∧ RegsKept [] s t ∧ FlagsKept s t
      ∧ Pushes 20 (if s.cpu.haltBug = true then s.cpu.pc - 1 else s.cpu.pc)
        { s with
          irq := { s.irq with req := s.irq.req &&& ~~~((1 : BitVec 5) <<< i) }
          info := { s.info with instPc := if s.cpu.haltBug = true then s.cpu.pc - 1 else s.cpu.pc } }
        t

/-- R612, R615, R640: a Running CPU with IME = 1 and a pending enabled request spends the step on the dispatch, after
which the devices advance by 20 T-cycles; a dispatch one of whose pushes OAM DMA refuses, the first to SP - 1 or the
second to SP - 2, sets the fault alone (R601, R602). Two points are the model's choice: the advance skips the DMA
countdown when a push of the dispatch wrote FF46 (log entry 15, DEDUCED, unsafe: R644 speaks of an instruction), and the
record of the step, cleared at its start, and in the fault clause the used draws are log entries 6 and 21. -/
def Obligations.StepDispatchesInterrupt : Prop :=
  ∀ s u : State, s.cart.status = .loaded → s.fault = none → s.cpu.mode = .running → s.cpu.ime = true →
    u = ({ s with info := { cycles := 0, instPc := 0, dmaWritten := false, calls := [] } } : State).joypadSample →
    u.pending = true →
    (∀ t, u.dispatchInterrupt = .ok t → step s = .next (advanceDevices 20 t))
    ∧ ∀ a : Addr,
      (s.dmaHolds (s.cpu.sp - 1) = true ∧ a = s.cpu.sp - 1
        ∨ s.dmaHolds (s.cpu.sp - 1) = false ∧ s.dmaHolds (s.cpu.sp - 2) = true ∧ a = s.cpu.sp - 2) →
      ∃ d, step s = .next
        { s with
          info := u.info
          fault := some
            { kind := .dmaBusConflict
              pc := if s.cpu.haltBug = true then s.cpu.pc - 1 else s.cpu.pc
              addr := a
              opcode := 0x00 }
          draws := d }

/-- R641, R643, R639: a halted step costs 4 T-cycles, wakes when an enabled request is pending, and advances the devices
by 4; a stopped step wakes when a key line is low and advances no device. -/
def Obligations.HaltedAndStoppedSteps : Prop :=
  ∀ s u : State, s.cart.status = .loaded → s.fault = none →
    u = ({ s with info := { cycles := 0, instPc := 0, dmaWritten := false, calls := [] } } : State).joypadSample →
    (s.cpu.mode = .halted →
      step s = .next (advanceDevices 4
        { u with
          cpu := { u.cpu with mode := if u.pending = true then .running else .halted }
          info := { u.info with cycles := 4 } }))
    ∧ (s.cpu.mode = .stopped →
      step s = .next
        { u with
          cpu := { u.cpu with mode := if u.joypad.lines = 0xF then .stopped else .running }
          info := { u.info with cycles := 4 } })

/-- R630, R631, R783, R784: a key pulls its line low when its group is selected; the sample at the start of a step raises
the joypad request exactly when some line fell since the previous one; the host's key change is seen at once by
`isKeyPressed` and changes nothing else. -/
def Obligations.JoypadLinesAndRequest : Prop :=
  (∀ j : Joypad,
    j.lines.getLsbD 0 = !((!j.sel.getLsbD 0 && j.keys.right) || (!j.sel.getLsbD 1 && j.keys.a))
      ∧ j.lines.getLsbD 1 = !((!j.sel.getLsbD 0 && j.keys.left) || (!j.sel.getLsbD 1 && j.keys.b))
      ∧ j.lines.getLsbD 2 = !((!j.sel.getLsbD 0 && j.keys.up) || (!j.sel.getLsbD 1 && j.keys.select))
      ∧ j.lines.getLsbD 3 = !((!j.sel.getLsbD 0 && j.keys.down) || (!j.sel.getLsbD 1 && j.keys.start)))
  ∧ (∀ s : State, ∃ raised : Bool,
    (raised = true ↔ ∃ k, k < 4 ∧ s.joypad.linesPrev.getLsbD k = true ∧ s.joypad.lines.getLsbD k = false)
      ∧ s.joypadSample =
        { s with
          joypad := { s.joypad with linesPrev := s.joypad.lines }
          irq := { s.irq with req := if raised then s.irq.req ||| 0b10000 else s.irq.req } })
  ∧ ∀ (s : State) (k q : Key) (b : Bool),
    (s.setInputState k b).isKeyPressed q = (if q = k then b else s.isKeyPressed q)
      ∧ (s.setInputState k b) = { s with joypad := { s.joypad with keys := (s.setInputState k b).joypad.keys } }

/-! ## The bus (`spec/20_memory.md`) -/

/-- R101, R110 to R115, R117, R118, R124: what a read gives, by region, outside OAM DMA; a read changes nothing but the
count of draws (R107). In A000 to BFFF (R202, R205, R208, R210, R215, R231) it gives what `State.windowRead` spells out
for each cartridge. The registers of R44 read, in any state, their stored bits, with 1 in the unused ones, and their
device's own: DIV is the counter's upper byte (R620), LY the line, 0 while the LCD is off (R664), STAT the selects, the
coincidence and the mode (R662), P1 the selection and the key lines (R630). -/
def Obligations.BusReadsByRegion : Prop :=
  ∀ (s : State) (a : Addr), s.dmaHolds a = false →
    (a.toNat < 0x8000 → s.memRead a = (s.byteAt (romBase + s.cart.romOffset a), s))
    ∧ (0x8000 ≤ a.toNat → a.toNat < 0xA000 →
      s.memRead a = (if s.ppu.lcdOn = true ∧ s.ppu.mode = .drawing then 0xFF else s.byteAt a.toNat, s))
    ∧ (0xA000 ≤ a.toNat → a.toNat < 0xC000 → s.memRead a = (s.windowRead a, s))
    ∧ (0xC000 ≤ a.toNat → a.toNat < 0xE000 → s.memRead a = (s.byteAt a.toNat, s))
    ∧ (0xE000 ≤ a.toNat → a.toNat < 0xFE00 → s.memRead a = (s.byteAt (a.toNat - 0x2000), s))
    ∧ (0xFE00 ≤ a.toNat → a.toNat < 0xFEA0 →
      s.memRead a =
        (if s.ppu.lcdOn = true ∧ (s.ppu.mode = .oamScan ∨ s.ppu.mode = .drawing) then 0xFF else s.byteAt a.toNat, s))
    ∧ ((0xFEA0 ≤ a.toNat ∧ a.toNat < 0xFF00) ∨ (0xFF10 ≤ a.toNat ∧ a.toNat < 0xFF40) →
      s.memRead a = (Config.unmodelledRead s.draws, { s with draws := s.draws + 1 }))
    ∧ (a = 0xFF03 ∨ (0xFF08 ≤ a.toNat ∧ a.toNat < 0xFF0F) ∨ (0xFF4C ≤ a.toNat ∧ a.toNat < 0xFF80) →
      s.memRead a = (0xFF, s))
    ∧ (0xFF80 ≤ a.toNat → a.toNat < 0xFFFF → s.memRead a = (s.byteAt a.toNat, s))
    ∧ (a = 0xFFFF → s.memRead a = (s.irq.ie, s))
    ∧ (∀ v : Byte, (a, v) ∈ [((0xFF01 : Addr), s.serial.sb), (0xFF05, s.timer.tima), (0xFF06, s.timer.tma),
        (0xFF40, s.ppu.lcdc), (0xFF42, s.ppu.scy), (0xFF43, s.ppu.scx), (0xFF45, s.ppu.lyc), (0xFF46, s.dma.reg),
        (0xFF47, s.ppu.bgp), (0xFF48, s.ppu.obp0), (0xFF49, s.ppu.obp1), (0xFF4A, s.ppu.wy), (0xFF4B, s.ppu.wx)] →
      s.memRead a = (v, s))
    ∧ (a = 0xFF00 → s.memRead a = (BitVec.ofNat 8 (0xC0 + 16 * s.joypad.sel.toNat + s.joypad.lines.toNat), s))
    ∧ (a = 0xFF02 →
      s.memRead a = (BitVec.ofNat 8 (0x7E + 128 * bitNat s.serial.transfer + bitNat s.serial.internalClock), s))
    ∧ (a = 0xFF04 → s.memRead a = (BitVec.ofNat 8 (s.timer.counter.toNat / 256), s))
    ∧ (a = 0xFF07 → s.memRead a = (BitVec.ofNat 8 (0xF8 + s.timer.tac.toNat), s))
    ∧ (a = 0xFF0F → s.memRead a = (BitVec.ofNat 8 (0xE0 + s.irq.req.toNat), s))
    ∧ (a = 0xFF44 → s.memRead a = (if s.ppu.lcdc.getLsbD 7 = true then s.ppu.ly else 0, s))
    ∧ (a = 0xFF41 → s.ppu.Inv →
      s.memRead a =
        (BitVec.ofNat 8 (0x80 + 8 * s.ppu.statSel.toNat + 4 * bitNat (decide (s.ppu.ly = s.ppu.lyc))
          + if s.ppu.lcdc.getLsbD 7 = true then modeNumber s.ppu.mode else 0), s))

/-- R101, R109 to R115, R117, R118, R124, R201: where a CPU write goes, by region: the byte of memory it stores to, if
any, and the regions where it changes nothing. In A000 to BFFF (R203, R205, R208, R210, R216, R231) it does what
`State.windowWrite` spells out for each cartridge. A write to a register of R44 changes the register's read-write bits
(R45) and nothing else but what its rule adds: the edge of the timer that a write of DIV or TAC can cause (R620, R621,
R624), a transfer that a write of SC starts anew or stops (R627), the LCD switched off or on by LCDC bit 7 (R670, R671),
and the OAM copy of FF46 (R130). -/
def Obligations.BusWritesByRegion : Prop :=
  ∀ (s : State) (a : Addr) (v : Byte),
    (a.toNat < 0x8000 → s.busWrite a v = { s with cart := s.cart.mbcWrite a v })
    ∧ (0x8000 ≤ a.toNat → a.toNat < 0xA000 →
      s.busWrite a v = if s.ppu.lcdOn = true ∧ s.ppu.mode = .drawing then s else s.setByte a.toNat v)
    ∧ (0xA000 ≤ a.toNat → a.toNat < 0xC000 → s.busWrite a v = s.windowWrite a v)
    ∧ (0xC000 ≤ a.toNat → a.toNat < 0xE000 → s.busWrite a v = s.setByte a.toNat v)
    ∧ (0xE000 ≤ a.toNat → a.toNat < 0xFE00 → s.busWrite a v = s.setByte (a.toNat - 0x2000) v)
    ∧ (0xFE00 ≤ a.toNat → a.toNat < 0xFEA0 →
      s.busWrite a v =
        if s.ppu.lcdOn = true ∧ (s.ppu.mode = .oamScan ∨ s.ppu.mode = .drawing) then s else s.setByte a.toNat v)
    ∧ ((0xFEA0 ≤ a.toNat ∧ a.toNat < 0xFF00) ∨ (0xFF10 ≤ a.toNat ∧ a.toNat < 0xFF40) → s.busWrite a v = s)
    ∧ (a = 0xFF03 ∨ a = 0xFF44 ∨ (0xFF08 ≤ a.toNat ∧ a.toNat < 0xFF0F) ∨ (0xFF4C ≤ a.toNat ∧ a.toNat < 0xFF80) →
      s.busWrite a v = s)
    ∧ (0xFF80 ≤ a.toNat → a.toNat < 0xFFFF → s.busWrite a v = s.setByte a.toNat v)
    ∧ (a = 0xFFFF → s.busWrite a v = { s with irq := { s.irq with ie := v } })
    ∧ (∀ t : State, (a, t) ∈ [((0xFF01 : Addr), { s with serial := { s.serial with sb := v } }),
        (0xFF05, { s with timer := { s.timer with tima := v } }), (0xFF06, { s with timer := { s.timer with tma := v } }),
        (0xFF42, { s with ppu := { s.ppu with scy := v } }), (0xFF43, { s with ppu := { s.ppu with scx := v } }),
        (0xFF45, { s with ppu := { s.ppu with lyc := v } }), (0xFF47, { s with ppu := { s.ppu with bgp := v } }),
        (0xFF48, { s with ppu := { s.ppu with obp0 := v } }), (0xFF49, { s with ppu := { s.ppu with obp1 := v } }),
        (0xFF4A, { s with ppu := { s.ppu with wy := v } }), (0xFF4B, { s with ppu := { s.ppu with wx := v } }),
        (0xFF00, { s with joypad := { s.joypad with sel := BitVec.ofNat 2 (v.toNat / 16 % 4) } }),
        (0xFF0F, { s with irq := { s.irq with req := BitVec.ofNat 5 (v.toNat % 32) } }),
        (0xFF41, { s with ppu := { s.ppu with statSel := BitVec.ofNat 4 (v.toNat / 8 % 16) } })] →
      s.busWrite a v = t)
    ∧ (a = 0xFF02 →
      s.busWrite a v =
        { s with
          serial :=
            if v.getLsbD 7 = true ∧ v.getLsbD 0 = true then
              { sb := s.serial.sb, transfer := true, internalClock := true, bits := 0, clock := 0 }
            else { s.serial with transfer := v.getLsbD 7, internalClock := v.getLsbD 0 } })
    ∧ (a = 0xFF04 → s.busWrite a v = s.timerWritten 0 s.timer.tac false)
    ∧ (a = 0xFF07 →
      s.busWrite a v =
        s.timerWritten s.timer.counter (BitVec.ofNat 3 (v.toNat % 8))
          (v.getLsbD 2 && s.timer.counter.getLsbD (timerBit v.toNat)))
    ∧ (a = 0xFF40 →
      s.busWrite a v =
        { s with
          ppu :=
            if s.ppu.lcdc.getLsbD 7 = true ∧ v.getLsbD 7 = false then
              { s.ppu with lcdc := v, ly := 0, dot := 0, mode := .hBlank, statLine := false }
            else if s.ppu.lcdc.getLsbD 7 = false ∧ v.getLsbD 7 = true then
              { s.ppu with lcdc := v, ly := 0, dot := 0, mode := .oamScan, windowLine := 0 }
            else { s.ppu with lcdc := v } })
    ∧ (a = 0xFF46 →
      s.busWrite a v =
        { s with
          mem := (s.busWrite a v).mem
          dma := { reg := v, remaining := 640 }
          info := { s.info with dmaWritten := true } })

/-- R45, R610, R611, R620, R621, R627, R630, R661, R662, R664: what an I/O register reads right after a write of `v`: the
read-write bits are those of `v`, the bits that read 1 read 1, and the read-only bits are the device's: those of P1 are
the four key lines under the groups that `v` selects. -/
def Obligations.IoRegistersReadBackTheirWritableBits : Prop :=
  ∀ (s : State) (v : Byte),
    (∀ a : Addr, a ∈ [(0xFF01 : Addr), 0xFF05, 0xFF06, 0xFF40, 0xFF42, 0xFF43, 0xFF45, 0xFF46, 0xFF47, 0xFF48, 0xFF49,
        0xFF4A, 0xFF4B, 0xFFFF] → ((s.busWrite a v).busRead a).1 = v)
    ∧ ((s.busWrite 0xFF00 v).busRead 0xFF00).1 &&& 0xF0 = (v &&& 0x30) ||| 0xC0
    ∧ (∀ (k : Nat) (dir act : Key), (k, dir, act) ∈ [(0, Key.right, Key.a), (1, .left, .b), (2, .up, .select), (3, .down, .start)] →
      ((s.busWrite 0xFF00 v).busRead 0xFF00).1.getLsbD k =
        !((!v.getLsbD 4 && s.isKeyPressed dir) || (!v.getLsbD 5 && s.isKeyPressed act)))
    ∧ ((s.busWrite 0xFF02 v).busRead 0xFF02).1 = v ||| 0x7E
    ∧ ((s.busWrite 0xFF04 v).busRead 0xFF04).1 = 0
    ∧ ((s.busWrite 0xFF07 v).busRead 0xFF07).1 = v ||| 0xF8
    ∧ ((s.busWrite 0xFF0F v).busRead 0xFF0F).1 = v ||| 0xE0
    ∧ ((s.busWrite 0xFF41 v).busRead 0xFF41).1 = (v &&& 0x78) ||| ((s.busRead 0xFF41).1 &&& 0x87)
    ∧ ((s.busWrite 0xFF44 v).busRead 0xFF44).1 = (s.busRead 0xFF44).1

/-- R130, R131: a write to FF46 copies 160 bytes to OAM from the source page, starts the 640 T-cycles, and changes no other
byte. A source byte is, by its page: the byte of the mapped ROM bank (R200, below 80), the byte of VRAM whatever the PPU
mode (80 to 9F, R110 ignored), what the window of cartridge RAM reads as through its gate (A0 to BF, R202), the byte of
WRAM (C0 to DF), or the byte 0x2000 below (from E0 on). -/
def Obligations.DmaCopiesSourcePageToOam : Prop :=
  ∀ (s : State) (v : Byte), s.mem.wf = true →
    (∀ i, i < 160 → (s.busWrite 0xFF46 v).byteAt (0xFE00 + i) = s.dmaSource (word16 v (BitVec.ofNat 8 i)))
    ∧ (∀ p, p < 0xFE00 ∨ 0xFEA0 ≤ p → (s.busWrite 0xFF46 v).byteAt p = s.byteAt p)
    ∧ (s.busWrite 0xFF46 v).dma = { reg := v, remaining := 640 }
    ∧ ∀ i, i < 160 →
      s.dmaSource (word16 v (BitVec.ofNat 8 i)) =
        if v.toNat < 0x80 then
          s.byteAt (romBase
            + ((if v.toNat < 0x40 then s.cart.mbc.romBank0 else s.cart.mbc.romBankN) % s.cart.romBanks) * 16384
            + (v.toNat * 256 + i) % 16384)
        else if v.toNat < 0xA0 then s.byteAt (v.toNat * 256 + i)
        else if v.toNat < 0xC0 then s.windowRead (BitVec.ofNat 16 (v.toNat * 256 + i))
        else if v.toNat < 0xE0 then s.byteAt (v.toNat * 256 + i)
        else s.byteAt (v.toNat * 256 + i - 0x2000)

/-- From R119 to R121, R130 and R644: while a transfer runs, a read below FF00 is a fresh draw and a write there faults,
and the rest of the bus is as outside a transfer; each T-cycle takes one from the period, in any step but the one that
wrote FF46. That this takes in a step whose interrupt dispatch, and no instruction, wrote FF46 is the model's choice (log
entry 15, DEDUCED, unsafe). -/
def Obligations.DmaHoldsBusBelowFf00 : Prop :=
  (∀ (s : State) (a : Addr), 0 < s.dma.remaining → a.toNat < 0xFF00 →
    s.memRead a = (Config.unmodelledRead s.draws, { s with draws := s.draws + 1 })
      ∧ ∀ op v, s.memWrite op a v = .error { record := dmaConflict s op a, draws := s.draws })
  ∧ (∀ (s : State) (a : Addr), 0xFF00 ≤ a.toNat ∨ s.dma.remaining = 0 →
    s.memRead a = s.busRead a ∧ ∀ op v, s.memWrite op a v = .ok (s.busWrite a v))
  ∧ ∀ (n : Nat) (s : State),
    (advanceDevices n s).dma = { s.dma with remaining := if s.info.dmaWritten then s.dma.remaining else s.dma.remaining - n }

/-! ## The devices -/

/-- R660, R663, R665, R666: with the LCD on, `n` T-cycles move the PPU `n` dots on in a frame of 154 lines of 456 dots, in
the mode of the position: mode 2 at dots 0 to 79, mode 3 at dots 80 to 251 and mode 0 at dots 252 to 455 of lines 0 to
143, mode 1 on lines 144 to 153. With the LCD off they leave the PPU as it is. R644: `n` T-cycles are `n` times one, which
is one of the timer, one of the serial port, one of the DMA period and one dot; and all that they may change is spelled
out: the counting fields of the four devices, requests that come up, and the list of display calls. The CPU, IE, the
joypad and its request, the cartridge, the memory, the fault, the draws and every register that the program writes alone
(TMA, TAC, the clock bit of SC, FF46, LCDC, the STAT selects, SCY, SCX, LYC, the palettes, WY, WX) stay. -/
def Obligations.FrameTiming : Prop :=
  (∀ (n : Nat) (s : State), s.ppu.Inv →
    (s.ppu.lcdOn = true →
      (advanceDevices n s).ppu.ly.toNat * 456 + (advanceDevices n s).ppu.dot
          = (s.ppu.ly.toNat * 456 + s.ppu.dot + n) % 70224
        ∧ (advanceDevices n s).ppu.dot < 456
        ∧ (advanceDevices n s).ppu.ly.toNat < 154
        ∧ (advanceDevices n s).ppu.mode =
          (if 144 ≤ (advanceDevices n s).ppu.ly.toNat then .vBlank
          else if (advanceDevices n s).ppu.dot ≤ 79 then .oamScan
          else if (advanceDevices n s).ppu.dot ≤ 251 then .drawing
          else .hBlank))
    ∧ (s.ppu.lcdOn = false → (advanceDevices n s).ppu = s.ppu))
  ∧ (∀ (n : Nat) (s u : State), u = advanceDevices n s → AdvanceKeeps s u)
  ∧ (∀ (n : Nat) (s : State), advanceDevices 0 s = s ∧ advanceDevices (n + 1) s = advanceDevices n (advanceDevices 1 s))
  ∧ ∀ s u : State, u = advanceDevices 1 s →
    u.timer = s.timerTick.timer ∧ u.serial = s.serialTick.serial ∧ u.ppu = s.ppuDot.ppu
      ∧ u.info.calls = s.ppuDot.info.calls
      ∧ u.irq.req = s.timerTick.irq.req ||| s.serialTick.irq.req ||| s.ppuDot.irq.req

/-- R666, R668, R669, R672, R690, R692, R785: what one dot of a running PPU does beside the position: the V-blank request,
`frame_ready` and `drawScreen` exactly on entry to line 144; `drawScanLine` with 160 shades exactly at dot 80 of a
visible line; the STAT request exactly on a rising edge of the STAT condition, the OR of the enabled conditions of STAT
bits 6 to 3. R680 to R684, R688, R689, R691: each of the 160 shades, spelled out in `State.PixelNumber`;
R675, R685, R686: the sprites that the line selects, the columns each covers and its colour there, spelled out in
`State.selectedSprites` and `State.spriteNumber`. R683, R49: the window line counter is 0 on entry to line 0, one more
after a rendered line on which the window is drawn (R682), and else kept; the line buffer holds the shades of the latest
rendered line. -/
def Obligations.PpuDotEvents : Prop :=
  ∀ s t : State, s.ppu.Inv → s.ppu.lcdOn = true → t = s.ppuDot →
    (t.irq.req.getLsbD 0 = (s.irq.req.getLsbD 0 || decide (s.ppu.ly = 143 ∧ s.ppu.dot = 455)))
    ∧ t.ppu.frameReady = (s.ppu.frameReady || decide (s.ppu.ly = 143 ∧ s.ppu.dot = 455))
    ∧ t.info.calls =
      s.info.calls
        ++ (if s.ppu.ly = 143 ∧ s.ppu.dot = 455 then [DisplayCall.drawScreen]
            else if s.ppu.ly.toNat < 144 ∧ s.ppu.dot = 79 then [.drawScanLine s.ppu.ly s.lineShades]
            else [])
    ∧ t.ppu.line = (if s.ppu.ly.toNat < 144 ∧ s.ppu.dot = 79 then s.lineShades else s.ppu.line)
    ∧ t.ppu.windowLine =
      (if s.ppu.ly = 153 ∧ s.ppu.dot = 455 then 0
      else if s.ppu.ly.toNat < 144 ∧ s.ppu.dot = 79 ∧ s.ppu.lcdc.getLsbD 5 = true ∧ s.ppu.lcdc.getLsbD 0 = true
          ∧ s.ppu.wy.toNat ≤ s.ppu.ly.toNat ∧ s.ppu.wx.toNat ≤ 166 then
        s.ppu.windowLine + 1
      else s.ppu.windowLine)
    ∧ s.lineShades.length = 160
    ∧ (∀ (x : Nat) (c : Shade), s.lineShades[x]? = some c → s.PixelNumber x c.toNat)
    ∧ s.lineSprites = s.selectedSprites
    ∧ (∀ (sp : Sprite) (x : Nat), sp.covers x = true ↔ sp.x.toNat ≤ x + 8 ∧ x < sp.x.toNat)
    ∧ (∀ sp ∈ s.lineSprites, ∀ x, sp.covers x = true → (s.spriteColour sp x).toNat = s.spriteNumber sp x)
    ∧ (t.ppu.statCondition = true ↔
      (t.ppu.statRead.getLsbD 6 = true ∧ t.ppu.ly = t.ppu.lyc) ∨ (t.ppu.statRead.getLsbD 5 = true ∧ t.ppu.mode = .oamScan)
        ∨ (t.ppu.statRead.getLsbD 4 = true ∧ t.ppu.mode = .vBlank)
        ∨ (t.ppu.statRead.getLsbD 3 = true ∧ t.ppu.mode = .hBlank))
    ∧ (t.irq.req.getLsbD 1 = (s.irq.req.getLsbD 1 || (t.ppu.statCondition && !s.ppu.statLine)))
    ∧ t.ppu.statLine = t.ppu.statCondition

/-- R687: of the sprites that cover a pixel with an opaque colour the winner has the smallest X, and among equal X it is
the first in OAM order; there is a winner whenever some sprite does. -/
def Obligations.SpriteWithSmallestXWins : Prop :=
  ∀ (s : State) (sprites : List Sprite) (x : Nat),
    (∀ sp, s.winner sprites x = some sp →
      ∃ before after, sprites = before ++ sp :: after ∧ sp.covers x = true ∧ s.spriteColour sp x ≠ 0
        ∧ (∀ o ∈ before, o.covers x = true → s.spriteColour o x ≠ 0 → sp.x.toNat < o.x.toNat)
        ∧ ∀ o ∈ after, o.covers x = true → s.spriteColour o x ≠ 0 → sp.x.toNat ≤ o.x.toNat)
    ∧ (s.winner sprites x = none → ∀ o ∈ sprites, o.covers x = true → s.spriteColour o x = 0)

/-- R620 to R623: the counter takes every T-cycle; a T-cycle increments TIMA, reloading it from TMA with a request on
overflow, exactly when the selected counter bit falls; an enabled timer increments once in every period. The signal is
the counter bit that TAC selects, under the enable. -/
def Obligations.TimerCountsFallingEdges : Prop :=
  (∀ (n : Nat) (s : State), (advanceDevices n s).timer.counter = s.timer.counter + BitVec.ofNat 16 n)
  ∧ (∀ t : Timer, t.sig = (t.tac.getLsbD 2 && t.counter.getLsbD (timerBit t.tac.toNat)))
  ∧ (∀ s : State, s.timerTick.timer.signal = s.timerTick.timer.sig
    ∧ (s.timer.signal = true ∧ s.timerTick.timer.sig = false →
      s.timerTick.timer.tima = (if s.timer.tima = 0xFF then s.timer.tma else s.timer.tima + 1)
        ∧ s.timerTick.irq.req = if s.timer.tima = 0xFF then s.irq.req ||| 0b00100 else s.irq.req)
    ∧ (¬(s.timer.signal = true ∧ s.timerTick.timer.sig = false) →
      s.timerTick.timer.tima = s.timer.tima ∧ s.timerTick.irq = s.irq))
  ∧ ∀ (s : State) (sel : Nat), s.timer.tac.getLsbD 2 = true → s.timer.tac.toNat % 4 = sel →
    s.timer.signal = s.timer.sig → s.timer.tima ≠ 0xFF →
    (State.timerTick^[if sel = 0 then 1024 else if sel = 1 then 16 else if sel = 2 then 64 else 256] s).timer.tima
      = s.timer.tima + 1

/-- R627, R628: a transfer started on the internal clock completes after exactly 4096 T-cycles, with SB = 0xFF and the
serial request set; with the external clock nothing ever moves. On the way, and from any state of a transfer, SB takes a
1 from the right every 512 T-cycles. -/
def Obligations.SerialTransferTakes4096Cycles : Prop :=
  ∀ (s : State) (v : Byte),
    (v.getLsbD 7 = true → v.getLsbD 0 = true →
      (∀ n, n < 4096 → (State.serialTick^[n] (s.busWrite 0xFF02 v)).serial.transfer = true
        ∧ (State.serialTick^[n] (s.busWrite 0xFF02 v)).irq = s.irq)
      ∧ (State.serialTick^[4096] (s.busWrite 0xFF02 v)).serial.transfer = false
      ∧ (State.serialTick^[4096] (s.busWrite 0xFF02 v)).serial.sb = 0xFF
      ∧ (State.serialTick^[4096] (s.busWrite 0xFF02 v)).irq = { s.irq with req := s.irq.req ||| 0b01000 })
    ∧ (s.serial.transfer = true → s.serial.internalClock = true → s.serial.bits < 8 → s.serial.clock < 512 →
      s.serialTick =
        { s with
          serial :=
            { sb := if s.serial.clock = 511 then BitVec.ofNat 8 (2 * s.serial.sb.toNat + 1) else s.serial.sb
              transfer := decide ¬(s.serial.clock = 511 ∧ s.serial.bits = 7)
              internalClock := true
              bits := if s.serial.clock = 511 then (s.serial.bits + 1) % 8 else s.serial.bits
              clock := (s.serial.clock + 1) % 512 }
          irq :=
            { s.irq with
              req := if s.serial.clock = 511 ∧ s.serial.bits = 7 then s.irq.req ||| 0b01000 else s.irq.req } })
    ∧ ((v.getLsbD 7 = false ∨ v.getLsbD 0 = false) →
      ∀ n, State.serialTick^[n] (s.busWrite 0xFF02 v) = s.busWrite 0xFF02 v)

/-! ## The cartridge (`spec/21_cartridge_mbc.md`) -/

/-- R200, R201, R204 to R207, R209, R211 to R214, R230, R231: the registers after every write to 0000-7FFF, for each
variant; the bank that the registers map at 0000-3FFF and at 4000-7FFF; the offset in the image that an access reads,
which is inside the banks present whatever the registers hold; and the byte of RAM that an access of A000-BFFF reaches,
which is inside the RAM present (R202, R210). -/
def Obligations.BankSelection : Prop :=
  (∀ (c : Cart) (a : Addr) (v : Byte), c.mbcWrite a v = { c with mbc := (c.mbcWrite a v).mbc }
    ∧ (c.mbc = .romOnly → (c.mbcWrite a v).mbc = .romOnly)
    ∧ (∀ m, c.mbc = .mbc1 m → (c.mbcWrite a v).mbc = .mbc1 (m.write a v))
    ∧ (∀ m, c.mbc = .mbc2 m → (c.mbcWrite a v).mbc = .mbc2 (m.write a v))
    ∧ (∀ m, c.mbc = .mbc3 m → (c.mbcWrite a v).mbc = .mbc3 (m.write c.rtc a v))
    ∧ ∀ m, c.mbc = .mbc5 m → (c.mbcWrite a v).mbc = .mbc5 (m.write c.rumble a v))
  ∧ (∀ (a : Addr) (v : Byte), a.toNat < 0x8000 →
    (∀ m : Mbc1, m.write a v =
      if a.toNat < 0x2000 then { m with ramEnable := decide (v.toNat % 16 = 10) }
      else if a.toNat < 0x4000 then { m with bank1 := BitVec.ofNat 5 (if v.toNat % 32 = 0 then 1 else v.toNat % 32) }
      else if a.toNat < 0x6000 then { m with bank2 := BitVec.ofNat 2 (v.toNat % 4) }
      else { m with mode := v.getLsbD 0 })
    ∧ (∀ m : Mbc2, m.write a v =
      if a.toNat < 0x4000 ∧ a.getLsbD 8 = false then { m with ramEnable := decide (v.toNat % 16 = 10) }
      else if a.toNat < 0x4000 then { m with romBank := BitVec.ofNat 4 (if v.toNat % 16 = 0 then 1 else v.toNat % 16) }
      else m)
    ∧ (∀ (m : Mbc3) (rtc : Bool), m.write rtc a v =
      if a.toNat < 0x2000 then { m with ramEnable := decide (v.toNat % 16 = 10) }
      else if a.toNat < 0x4000 then { m with romBank := BitVec.ofNat 7 (if v.toNat % 128 = 0 then 1 else v.toNat % 128) }
      else if a.toNat < 0x6000 then { m with sel := BitVec.ofNat 4 (v.toNat % 16) }
      else if rtc = true ∧ m.latchPrev = 0x00 ∧ v = 0x01 then { m with latched := m.live, latchPrev := v }
      else { m with latchPrev := v })
    ∧ ∀ (m : Mbc5) (rumble : Bool), m.write rumble a v =
      if a.toNat < 0x2000 then { m with ramEnable := decide (v.toNat % 16 = 10) }
      else if a.toNat < 0x3000 then { m with romBank := BitVec.ofNat 9 (m.romBank.toNat / 256 * 256 + v.toNat) }
      else if a.toNat < 0x4000 then { m with romBank := BitVec.ofNat 9 (v.toNat % 2 * 256 + m.romBank.toNat % 256) }
      else if a.toNat < 0x6000 then
        if rumble = true then { m with ramBank := BitVec.ofNat 4 (v.toNat % 8), motor := v.getLsbD 3 }
        else { m with ramBank := BitVec.ofNat 4 (v.toNat % 16) }
      else m)
  ∧ (Mbc.romOnly.romBank0 = 0 ∧ Mbc.romOnly.romBankN = 1
    ∧ (∀ m, (Mbc.mbc1 m).romBank0 = (if m.mode = true then m.bank2.toNat * 32 else 0)
      ∧ (Mbc.mbc1 m).romBankN = m.bank2.toNat * 32 + m.bank1.toNat)
    ∧ (∀ m, (Mbc.mbc2 m).romBank0 = 0 ∧ (Mbc.mbc2 m).romBankN = m.romBank.toNat)
    ∧ (∀ m, (Mbc.mbc3 m).romBank0 = 0 ∧ (Mbc.mbc3 m).romBankN = m.romBank.toNat)
    ∧ ∀ m, (Mbc.mbc5 m).romBank0 = 0 ∧ (Mbc.mbc5 m).romBankN = m.romBank.toNat)
  ∧ ∀ (c : Cart) (a : Addr),
    c.romOffset a = ((if a.toNat < 0x4000 then c.mbc.romBank0 else c.mbc.romBankN) % c.romBanks) * 16384 + a.toNat % 16384
    ∧ (0 < c.romBanks → c.romOffset a < c.romBanks * 16384)
    ∧ (∀ p, c.target a = .ram p → 0 < c.ramSize ∧ cartRamBase ≤ p ∧ p < cartRamBase + c.ramSize)
    ∧ ∀ p, c.target a = .cell p → p = cartRamBase + a.toNat % 512

/-- R226, R224, R214: an elapsed second moves a clock that is in range one second on, modulo 512 days, and the wrap sets
the sticky day carry; a halted clock stays; a register out of its range counts to its mask and wraps to 0 without a
carry; the latch sequence 0x00, 0x01 copies the live registers. R786: the event `RtcSecond` does this to the live
registers of a loaded MBC3 cartridge with an RTC, and changes nothing else; on any other it changes nothing. -/
def Obligations.RtcCountsSeconds : Prop :=
  (∀ t : Rtc, t.halt = true → t.tickSecond = t)
  ∧ (∀ t u : Rtc, t.halt = false → t.s.toNat < 60 → t.m.toNat < 60 → t.h.toNat < 24 → u = t.tickSecond →
    ((u.day * 24 + u.h.toNat) * 60 + u.m.toNat) * 60 + u.s.toNat
        = (((t.day * 24 + t.h.toNat) * 60 + t.m.toNat) * 60 + t.s.toNat + 1) % (512 * 86400)
      ∧ u.s.toNat < 60 ∧ u.m.toNat < 60 ∧ u.h.toNat < 24 ∧ u.halt = false
      ∧ u.carry = (t.carry || decide (((t.day * 24 + t.h.toNat) * 60 + t.m.toNat) * 60 + t.s.toNat + 1 = 512 * 86400)))
  ∧ (∀ t u : Rtc, t.halt = false → u = t.tickSecond →
    t.day = 256 * bitNat t.day8 + t.dl.toNat
      ∧ u.s.toNat = (if t.s.toNat = 59 then 0 else (t.s.toNat + 1) % 64)
      ∧ u.m.toNat =
        (if t.s.toNat ≠ 59 then t.m.toNat else if t.m.toNat = 59 then 0 else (t.m.toNat + 1) % 64)
      ∧ u.h.toNat =
        (if t.s.toNat ≠ 59 ∨ t.m.toNat ≠ 59 then t.h.toNat else if t.h.toNat = 23 then 0 else (t.h.toNat + 1) % 32)
      ∧ u.day =
        (if t.s.toNat ≠ 59 ∨ t.m.toNat ≠ 59 ∨ t.h.toNat ≠ 23 then t.day else if t.day = 511 then 0 else t.day + 1)
      ∧ u.carry = (t.carry || decide (t.s.toNat = 59 ∧ t.m.toNat = 59 ∧ t.h.toNat = 23 ∧ t.day = 511))
      ∧ u.halt = false)
  ∧ (∀ s : State,
    (∀ m, s.cart.mbc = .mbc3 m → s.cart.rtc = true → s.cart.status = .loaded →
      s.rtcSecond = { s with cart := { s.cart with mbc := .mbc3 { m with live := m.live.tickSecond } } })
    ∧ ((∀ m, s.cart.mbc ≠ .mbc3 m) ∨ s.cart.rtc = false ∨ s.cart.status ≠ .loaded → s.rtcSecond = s))
  ∧ ∀ (m : Mbc3) (a b : Addr), 0x6000 ≤ a.toNat → a.toNat < 0x8000 → 0x6000 ≤ b.toNat → b.toNat < 0x8000 →
    ((m.write true a 0x00).write true b 0x01).latched = m.live
      ∧ ((m.write true a 0x00).write true b 0x01).live = m.live

/-- R182, R184 to R188: the status that the loader returns, the first failing check in order deciding; and the tables and
the checksum that it and `LoadLeavesResetValues` go by: the header checksum x makes x, the 25 bytes and 25 a multiple of
256 (R184), a RAM size code's bytes (R186), a type code's variant and flags (R187) and a variant's limits (R188; MBC2's
RAM is built in, and its 512 are log entry 18). -/
def Obligations.LoaderChecksInOrder : Prop :=
  (∀ f : RomImage, (f.checksum.toNat + ((List.range 25).map fun i => (f.at (0x0134 + i)).toNat).sum + 25) % 256 = 0)
  ∧ (∀ (code : Byte) (n : Nat),
    ramSizeOf code = some n ↔
      (code.toNat, n) ∈ [(0, 0), (1, 2 * 1024), (2, 8 * 1024), (3, 32 * 1024), (4, 128 * 1024), (5, 64 * 1024)])
  ∧ (∀ (code : Byte) (t : CartType),
    cartTypeOf code = some t ↔
      (code.toNat, t.variant) ∈ cartVariants
        ∧ t.battery = decide (code.toNat ∈ [0x03, 0x06, 0x09, 0x0F, 0x10, 0x13, 0x1B, 0x1E])
        ∧ t.rtc = decide (code.toNat ∈ [0x0F, 0x10]) ∧ t.rumble = decide (code.toNat ∈ [0x1C, 0x1D, 0x1E]))
  ∧ (∀ v : Variant,
    (v, v.maxBanks, v.maxRam) ∈ [(.romOnly, 2, 8 * 1024), (.mbc1, 128, 32 * 1024), (.mbc2, 16, 512),
      (.mbc3, 128, 32 * 1024), (.mbc5, 512, 128 * 1024)])
  ∧ ∀ (s : State) (f : RomImage) (initMem initCartRam : Memory) (st : CartStatus),
    st = (s.loadGame (some f) initMem initCartRam).1 →
    (8388608 < f.len → st = .romTooBig)
    ∧ (f.len ≤ 8388608 →
      (f.len < 0x0150 ∨ 8 < (f.at 0x0148).toNat ∨ f.checksum ≠ f.at 0x014D → st = .romParseError)
      ∧ (¬(f.len < 0x0150 ∨ 8 < (f.at 0x0148).toNat ∨ f.checksum ≠ f.at 0x014D) →
        (f.len ≠ 32768 * 2 ^ (f.at 0x0148).toNat → st = .romSizeMismatch)
        ∧ (f.len = 32768 * 2 ^ (f.at 0x0148).toNat →
          (cartTypeOf (f.at 0x0147) = none → st = .romUnsupportedMbc)
          ∧ ∀ t, cartTypeOf (f.at 0x0147) = some t →
            (t.variant.maxBanks < 2 * 2 ^ (f.at 0x0148).toNat → st = .romTooBig)
            ∧ (2 * 2 ^ (f.at 0x0148).toNat ≤ t.variant.maxBanks →
              (t.variant ≠ .mbc2 → (∀ n, ramSizeOf (f.at 0x0149) = some n → t.variant.maxRam < n) →
                st = .ramSizeUnsupported)
              ∧ (t.variant = .mbc2 ∨ (∃ n, ramSizeOf (f.at 0x0149) = some n ∧ n ≤ t.variant.maxRam) →
                st = .loaded)))))

/-! ## The host (`spec/80_host_interface.md`) -/

/-- R190, R782: a failed `loadGame` leaves no cartridge and its status; then no step happens and `doTick` returns 0 and
changes nothing. Two clauses are the model's choice: the rules do not say that the joypad is kept, nor that the discarded
cartridge's bytes read 0 afterwards (log entry 24, DEDUCED, with the unlisted byte of entry 3 and the placeholders of
entry 22). -/
def Obligations.FailedLoadLeavesNoCartridge : Prop :=
  ∀ (s t : State) (file : Option RomImage) (initMem initCartRam : Memory) (st : CartStatus),
    s.loadGame file initMem initCartRam = (st, t) → st ≠ .loaded →
    t.cart.status = st ∧ t.joypad = s.joypad ∧ (∀ p, cartRamBase ≤ p → t.byteAt p = 0) ∧ step t = .next t
      ∧ t.doTick = .next { mask := 0, state := t, calls := [] }

/-- R781: with a fault set, `doTick` answers FAULT (bit 1) and steps no more. Otherwise it runs at least one step: steps
that raise no fault, complete no frame and cost less than 70224 T-cycles together, and then the one step that ends the
call. The mask is FAULT exactly when that step raised a fault, FRAME (bit 0) exactly when it left `frame_ready` set, which
is then cleared, and 00 exactly when neither happened and the cost has reached 70224. The display calls are those of the
steps, in order (R785). That no host event comes between two of these steps is the model's choice (log entry 27), and so
is that a step that raises a fault leaves no display call (log entry 6). -/
def Obligations.DoTickMask : Prop :=
  ∀ s : State, s.cart.status = .loaded →
    (s.fault ≠ none → s.doTick = .next { mask := 0b10, state := s, calls := [] })
    ∧ (s.fault = none → ∃ (ts : List State) (t : State), StepsThrough s (ts ++ [t])
      ∧ (∀ u ∈ ts, u.fault = none ∧ u.ppu.frameReady = false) ∧ stepsCost ts < 70224
      ∧ (t.fault ≠ none → s.doTick = .next { mask := 0b10, state := t, calls := stepsCalls ts })
      ∧ (t.fault = none → t.ppu.frameReady = true →
        s.doTick =
          .next
            { mask := 0b01, state := { t with ppu := { t.ppu with frameReady := false } }
              calls := stepsCalls (ts ++ [t]) })
      ∧ (t.fault = none → t.ppu.frameReady = false →
        70224 ≤ stepsCost (ts ++ [t]) ∧ s.doTick = .next { mask := 0b00, state := t, calls := stepsCalls (ts ++ [t]) }))

/-- R790, R191: what `saveState` saves of one state, `loadState` puts into any state of the same cartridge: that state is
then the saved one, but for its own keys, fault and the model's own draws and record (log entry 26), and from it `doTick`
runs as from the saved one (vector S2); whatever a blob holds, a load changes no byte of the image and nothing of the
cartridge but its registers; and a load that does not match is refused. R788, R789: `loadCartridgeRam` takes exactly
`ram_size` bytes and replaces every byte of cartridge RAM and nothing else, `writeCartridgeRam` gives them back; an MBC2
cell keeps the low four bits and is given back under 0xF0. That `ram_size` of MBC2 is 512 is log entry 18. -/
def Obligations.HostSavesAndRestores : Prop :=
  (∀ s u : State, s.mem.wf = true → u.mem.wf = true → s.cart.status = .loaded → u.imageId = s.imageId →
    u.cart = { s.cart with mbc := u.cart.mbc } → u.cart.mbc.variant = s.cart.mbc.variant →
    ∃ b t, s.saveState = .ok b ∧ u.loadState b = .ok t
      ∧ t =
        { s with
          joypad := { s.joypad with keys := u.joypad.keys }, fault := u.fault, draws := u.draws, info := u.info }
      ∧ (u.joypad.keys = s.joypad.keys → u.fault = none → s.fault = none → u.draws = s.draws → t.doTick = s.doTick))
  ∧ (∀ (s t : State) (b : SaveBlob), s.loadState b = .ok t →
    s.cart.status = .loaded ∧ b.version = Config.saveStateVersion ∧ b.size = s.cart.blobSize ∧ b.image = s.imageId
      ∧ (∀ i, t.byteAt (romBase + i) = s.byteAt (romBase + i)) ∧ t.cart = { s.cart with mbc := t.cart.mbc }
      ∧ t.cart.mbc.variant = s.cart.mbc.variant ∧ t.joypad.keys = s.joypad.keys ∧ t.fault = s.fault)
  ∧ (∀ (s : State) (bytes : List Byte),
    (s.cart.status ≠ .loaded ∨ s.cart.ramSize = 0 ∨ bytes.length ≠ s.cart.ramSize → ∃ e, s.loadCartridgeRam bytes = .error e)
    ∧ (s.mem.wf = true → s.cart.status = .loaded → 0 < s.cart.ramSize → bytes.length = s.cart.ramSize →
      ∃ t, s.loadCartridgeRam bytes = .ok t ∧ t = { s with mem := t.mem } ∧ t.mem.wf = true
        ∧ (∀ (i : Nat) (v : Byte), bytes[i]? = some v →
          (t.byteAt (cartRamBase + i)).toNat = if s.cart.mbc.variant = .mbc2 then v.toNat % 16 else v.toNat)
        ∧ ∀ p, p < cartRamBase ∨ cartRamBase + s.cart.ramSize ≤ p → t.byteAt p = s.byteAt p))
  ∧ ∀ s : State,
    (s.cart.status ≠ .loaded → ∃ e, s.writeCartridgeRam = .error e)
    ∧ (s.cart.status = .loaded → ∃ bytes, s.writeCartridgeRam = .ok bytes ∧ bytes.length = s.cart.ramSize
      ∧ ∀ (i : Nat) (v : Byte), bytes[i]? = some v →
        v.toNat =
          if s.cart.mbc.variant = .mbc2 then 0xF0 + (s.byteAt (cartRamBase + i)).toNat % 16
          else (s.byteAt (cartRamBase + i)).toNat)
end

