-- ==== Sys2Proof/Laws/Memory.lean ====
section
/-! SUPPORT. The memory: what a read gives after a write, and that a write keeps the canonical form. -/

namespace Sys2Proof.Machine

theorem Memory.wfFrom_mono {lo lo' : Nat} {m : Memory} (h : lo' ≤ lo) (hm : m.wfFrom lo = true) :
    m.wfFrom lo' = true := by
  cases m with
  | nil => rfl
  | cons c rest =>
    simp only [Memory.wfFrom, Bool.and_eq_true, decide_eq_true_eq] at hm ⊢
    exact ⟨⟨by omega, hm.1.2⟩, hm.2⟩

/-- Below its first admitted address a memory reads as unlisted. -/
theorem Memory.read_of_lt {lo a : Nat} {m : Memory} (hm : m.wfFrom lo = true) (h : a < lo) :
    m.read a = Memory.unlisted := by
  induction m generalizing lo with
  | nil => rfl
  | cons c rest ih =>
    simp only [Memory.wfFrom, Bool.and_eq_true, decide_eq_true_eq] at hm
    simp only [Memory.read, if_neg (show ¬a = c.1 by omega)]
    exact ih hm.2 (by omega)

theorem Memory.wfFrom_write {lo a : Nat} {m : Memory} (v : Byte) (hm : m.wfFrom lo = true) (h : lo ≤ a) :
    (m.write a v).wfFrom lo = true := by
  induction m generalizing lo with
  | nil => by_cases hv : v = Memory.unlisted <;> simp [Memory.write, Memory.wfFrom, hv, h]
  | cons c rest ih =>
    simp only [Memory.wfFrom, Bool.and_eq_true, decide_eq_true_eq] at hm
    by_cases hlt : a < c.1
    · by_cases hv : v = Memory.unlisted
      · simp [Memory.write, Memory.wfFrom, hlt, hv, hm]
      · simp [Memory.write, Memory.wfFrom, hlt, hv, hm, h, Nat.succ_le_of_lt hlt]
    · by_cases heq : a = c.1
      · by_cases hv : v = Memory.unlisted
        · simpa [Memory.write, heq, hv] using Memory.wfFrom_mono (by omega) hm.2
        · simp [Memory.write, Memory.wfFrom, heq, hv, hm]
      · simp only [Memory.write, if_neg hlt, if_neg heq, Memory.wfFrom, Bool.and_eq_true, decide_eq_true_eq]
        exact ⟨hm.1, ih hm.2 (by omega)⟩

/-- A write keeps the canonical form. -/
theorem Memory.wf_write {m : Memory} (a : Nat) (v : Byte) (hm : m.wf = true) : (m.write a v).wf = true :=
  Memory.wfFrom_write v hm (Nat.zero_le a)

theorem Memory.read_write_from {lo a b : Nat} {m : Memory} (v : Byte) (hm : m.wfFrom lo = true) (h : lo ≤ a) :
    (m.write a v).read b = if b = a then v else m.read b := by
  induction m generalizing lo with
  | nil =>
    by_cases hv : v = Memory.unlisted
    · simp [Memory.write, Memory.read, hv]
    · simp [Memory.write, Memory.read, hv]
  | cons c rest ih =>
    simp only [Memory.wfFrom, Bool.and_eq_true, decide_eq_true_eq] at hm
    by_cases hlt : a < c.1
    · by_cases hv : v = Memory.unlisted
      · by_cases hb : b = a
        · have hr : Memory.read rest a = Memory.unlisted := Memory.read_of_lt hm.2 (by omega)
          simp [Memory.write, Memory.read, hlt, hv, hb, Nat.ne_of_lt hlt, hr]
        · simp [Memory.write, hlt, hv, hb]
      · simp [Memory.write, Memory.read, hlt, hv]
    · by_cases heq : a = c.1
      · by_cases hv : v = Memory.unlisted
        · by_cases hb : b = a
          · have hr : Memory.read rest c.1 = Memory.unlisted := Memory.read_of_lt hm.2 (by omega)
            simp [Memory.write, heq, hv, hb, hr]
          · simp [Memory.write, Memory.read, heq, hv, heq ▸ hb]
        · by_cases hb : b = a <;> simp [Memory.write, Memory.read, heq, hv, hb]
          simp [heq ▸ hb]
      · by_cases hbc : b = c.1
        · simp [Memory.write, Memory.read, hlt, heq, hbc, Ne.symm heq]
        · simp only [Memory.write, if_neg hlt, if_neg heq, Memory.read, if_neg hbc]
          exact ih hm.2 (by omega)

/-- In a memory in canonical form a read gives the last byte written there. -/
theorem Memory.read_write {m : Memory} (a b : Nat) (v : Byte) (hm : m.wf = true) :
    (m.write a v).read b = if b = a then v else m.read b :=
  Memory.read_write_from v hm (Nat.zero_le a)

theorem State.byteAt_setByte {s : State} (p q : Nat) (v : Byte) (h : s.mem.wf = true) :
    (s.setByte p v).byteAt q = if q = p then v else s.byteAt q :=
  Memory.read_write p q v h

theorem State.wf_setByte {s : State} (p : Nat) (v : Byte) (h : s.mem.wf = true) : (s.setByte p v).mem.wf = true :=
  Memory.wf_write p v h

end Sys2Proof.Machine
end

