-- ==== Sys2Proof/Laws/Bus.lean ====
section
/-! SUPPORT. The bus: what a read and a write can change, one lemma for each operation. -/

namespace Sys2Proof.Machine

/-! ## Reads -/

theorem State.draw_snd (s : State) : s.draw.2 = { s with draws := s.draws + 1 } := rfl

theorem State.ioRead_snd (s : State) (r : IoReg) : (s.ioRead r).2 = { s with draws := (s.ioRead r).2.draws } := by
  cases r <;> rfl

theorem State.busRead_snd (s : State) (a : Addr) : (s.busRead a).2 = { s with draws := (s.busRead a).2.draws } := by
  unfold State.busRead
  split <;> first | rfl | exact s.ioRead_snd _

/-- A read changes nothing but the count of draws. -/
theorem State.memRead_snd (s : State) (a : Addr) : (s.memRead a).2 = { s with draws := (s.memRead a).2.draws } := by
  unfold State.memRead
  split
  · rfl
  · exact s.busRead_snd a

variable (s : State) (a : Addr)

@[simp] theorem State.cpu_memRead : (s.memRead a).2.cpu = s.cpu := by rw [State.memRead_snd]
@[simp] theorem State.irq_memRead : (s.memRead a).2.irq = s.irq := by rw [State.memRead_snd]
@[simp] theorem State.timer_memRead : (s.memRead a).2.timer = s.timer := by rw [State.memRead_snd]
@[simp] theorem State.serial_memRead : (s.memRead a).2.serial = s.serial := by rw [State.memRead_snd]
@[simp] theorem State.joypad_memRead : (s.memRead a).2.joypad = s.joypad := by rw [State.memRead_snd]
@[simp] theorem State.ppu_memRead : (s.memRead a).2.ppu = s.ppu := by rw [State.memRead_snd]
@[simp] theorem State.dma_memRead : (s.memRead a).2.dma = s.dma := by rw [State.memRead_snd]
@[simp] theorem State.cart_memRead : (s.memRead a).2.cart = s.cart := by rw [State.memRead_snd]
@[simp] theorem State.mem_memRead : (s.memRead a).2.mem = s.mem := by rw [State.memRead_snd]
@[simp] theorem State.fault_memRead : (s.memRead a).2.fault = s.fault := by rw [State.memRead_snd]
@[simp] theorem State.info_memRead : (s.memRead a).2.info = s.info := by rw [State.memRead_snd]
@[simp] theorem State.byteAt_memRead (p : Nat) : (s.memRead a).2.byteAt p = s.byteAt p := by rw [State.memRead_snd]; rfl
@[simp] theorem State.reg_memRead (r : Reg8) : (s.memRead a).2.reg r = s.reg r := by rw [State.memRead_snd]; cases r <;> rfl
@[simp] theorem State.flags_memRead : (s.memRead a).2.flags = s.flags := by rw [State.memRead_snd]; rfl
@[simp] theorem State.pair_memRead (p : Rp) : (s.memRead a).2.pair p = s.pair p := by rw [State.memRead_snd]; cases p <;> rfl

/-! ## OAM DMA -/

/-- The copy changes only OAM: bytes `i` to `i + n - 1` of it. -/
theorem dmaCopy_spec (page : Byte) (i n : Nat) (s : State) :
    ∃ m, dmaCopy page i n s = { s with mem := m }
      ∧ (s.mem.wf = true → m.wf = true
        ∧ ∀ p, (p < 0xFE00 + i ∨ 0xFE00 + i + n ≤ p) → m.read p = s.mem.read p) := by
  induction n generalizing i s with
  | zero => exact ⟨s.mem, rfl, fun h => ⟨h, fun _ _ => rfl⟩⟩
  | succ n ih =>
    obtain ⟨m, hm, hw⟩ := ih (i + 1) (s.setByte (0xFE00 + i) (s.dmaSource (word16 page (BitVec.ofNat 8 i))))
    refine ⟨m, hm, fun h => ?_⟩
    obtain ⟨hwf, hr⟩ := hw (State.wf_setByte _ _ h)
    refine ⟨hwf, fun p hp => ?_⟩
    rw [hr p (by omega)]
    exact (State.byteAt_setByte _ p _ h).trans (if_neg (by omega))

/-- What a write to FF46 makes of the state. -/
theorem State.startDma_spec (s : State) (v : Byte) :
    ∃ m, s.startDma v =
        { s with mem := m, dma := { reg := v, remaining := 640 }, info := { s.info with dmaWritten := true } }
      ∧ (s.mem.wf = true → m.wf = true ∧ ∀ p, (p < 0xFE00 ∨ 0xFEA0 ≤ p) → m.read p = s.mem.read p) := by
  obtain ⟨m, hm, hw⟩ := dmaCopy_spec v 0 160 s
  refine ⟨m, ?_, fun h => ⟨(hw h).1, fun p hp => (hw h).2 p (by omega)⟩⟩
  simp only [State.startDma, hm]
  rfl

/-! ## Writes -/

/-- Requests and the clock edge touch only the timer and the requests. -/
theorem State.timerEdge_spec (s : State) :
    ∃ t q, s.timerEdge = { s with timer := t, irq := { s.irq with req := q } } ∧ t.counter = s.timer.counter
      ∧ t.tac = s.timer.tac ∧ t.tma = s.timer.tma ∧ t.signal = s.timer.sig := by
  unfold State.timerEdge State.timaIncrement State.request
  dsimp only
  split
  · split
    · exact ⟨_, _, rfl, rfl, rfl, rfl, rfl⟩
    · exact ⟨_, s.irq.req, rfl, rfl, rfl, rfl, rfl⟩
  · exact ⟨_, s.irq.req, rfl, rfl, rfl, rfl, rfl⟩

/-- A write to an I/O register other than FF46 leaves the CPU, the memory, the DMA unit, the cartridge and the model's
record as they are. -/
theorem State.ioWrite_spec (s : State) (r : IoReg) (v : Byte) (h : r ≠ .dma) :
    ∃ q t se j p, s.ioWrite r v = { s with irq := q, timer := t, serial := se, joypad := j, ppu := p } := by
  obtain ⟨tc, qc, hc, -⟩ := ({ s with timer := { s.timer with counter := 0 } } : State).timerEdge_spec
  obtain ⟨tt, qt, ht, -⟩ := ({ s with timer := { s.timer with tac := v.setWidth 3 } } : State).timerEdge_spec
  cases r
  case dma => exact absurd rfl h
  case div => exact ⟨_, _, s.serial, s.joypad, s.ppu, hc⟩
  case tac => exact ⟨_, _, s.serial, s.joypad, s.ppu, ht⟩
  all_goals exact ⟨_, _, _, _, _, rfl⟩

theorem ite_reg_else {c : Prop} [Decidable c] {x y r : IoReg} (h : (if c then x else y) = r) (hx : x ≠ r) : y = r := by
  by_cases hc : c
  · rw [if_pos hc] at h
    exact absurd h hx
  · rwa [if_neg hc] at h

theorem ioRegOf_eq_dma {a : Addr} (h : ioRegOf a = .dma) : a = 0xFF46 := by
  unfold ioRegOf at h
  repeat replace h := ite_reg_else h (by decide)
  by_contra hn
  rw [if_neg hn] at h
  repeat replace h := ite_reg_else h (by decide)
  exact absurd h (by decide)

theorem regionOf_ff46 : regionOf 0xFF46 = .io := by decide
theorem ioRegOf_ff46 : ioRegOf 0xFF46 = .dma := by decide

/-- What a CPU write can change, besides the devices it is routed to: the byte of memory it stores to, the OAM copy of a
write to FF46, and nothing of the CPU, the fault, the draws or the step's record but `dmaWritten`. -/
theorem State.busWrite_frame (s : State) (a : Addr) (v : Byte) :
    (s.busWrite a v).cpu = s.cpu ∧ (s.busWrite a v).fault = s.fault ∧ (s.busWrite a v).draws = s.draws
      ∧ (s.busWrite a v).info = { s.info with dmaWritten := s.info.dmaWritten || a == 0xFF46 }
      ∧ (a ≠ 0xFF46 → (s.busWrite a v).dma = s.dma) := by
  by_cases ha : a = 0xFF46
  · subst ha
    obtain ⟨m, hm, -⟩ := s.startDma_spec v
    have hb : s.busWrite 0xFF46 v = s.startDma v := rfl
    rw [hb, hm]
    exact ⟨rfl, rfl, rfl, by simp, fun h => absurd rfl h⟩
  · have hi : ({ s.info with dmaWritten := s.info.dmaWritten || a == 0xFF46 } : StepInfo) = s.info := by
      rw [beq_eq_false_iff_ne.mpr ha, Bool.or_false]
    rw [hi]
    unfold State.busWrite
    split
    case h_3 =>
      unfold State.cartRamWrite
      split <;> exact ⟨rfl, rfl, rfl, rfl, fun _ => rfl⟩
    case h_8 =>
      obtain ⟨q, t, se, j, p, hw⟩ := s.ioWrite_spec (ioRegOf a) v (fun h => ha (ioRegOf_eq_dma h))
      rw [hw]
      exact ⟨rfl, rfl, rfl, rfl, fun _ => rfl⟩
    all_goals first
      | exact ⟨rfl, rfl, rfl, rfl, fun _ => rfl⟩
      | (split <;> exact ⟨rfl, rfl, rfl, rfl, fun _ => rfl⟩)

@[simp] theorem State.cpu_busWrite (v : Byte) : (s.busWrite a v).cpu = s.cpu := (s.busWrite_frame a v).1
@[simp] theorem State.fault_busWrite (v : Byte) : (s.busWrite a v).fault = s.fault := (s.busWrite_frame a v).2.1
@[simp] theorem State.draws_busWrite (v : Byte) : (s.busWrite a v).draws = s.draws := (s.busWrite_frame a v).2.2.1
theorem State.info_busWrite (v : Byte) :
    (s.busWrite a v).info = { s.info with dmaWritten := s.info.dmaWritten || a == 0xFF46 } :=
  (s.busWrite_frame a v).2.2.2.1
theorem State.dma_busWrite (v : Byte) (h : a ≠ 0xFF46) : (s.busWrite a v).dma = s.dma := (s.busWrite_frame a v).2.2.2.2 h

/-- A write that is not to FF46 either stores one byte, at `storeAddr`, or leaves the memory as it is. -/
theorem State.mem_busWrite (s : State) (a : Addr) (v : Byte) (ha : a ≠ 0xFF46) :
    (s.busWrite a v).mem =
      match s.storeAddr a with
      | some p => s.mem.write p (s.storedByte a v)
      | none => s.mem := by
  unfold State.busWrite State.storeAddr State.storedByte
  cases hr : regionOf a <;> dsimp only
  case vram => split <;> rfl
  case oam => split <;> rfl
  case cartRam =>
    unfold State.cartRamWrite
    split <;> simp_all [State.setByte]
  case io =>
    obtain ⟨q, t, se, j, p, hw⟩ := s.ioWrite_spec (ioRegOf a) v (fun h => ha (ioRegOf_eq_dma h))
    rw [hw]
  all_goals rfl

/-- A write keeps the canonical form of the memory. -/
theorem State.wf_busWrite (s : State) (a : Addr) (v : Byte) (h : s.mem.wf = true) : (s.busWrite a v).mem.wf = true := by
  by_cases ha : a = 0xFF46
  · subst ha
    obtain ⟨m, hm, hw⟩ := s.startDma_spec v
    have hb : s.busWrite 0xFF46 v = s.startDma v := rfl
    rw [hb, hm]
    exact (hw h).1
  · rw [s.mem_busWrite a v ha]
    split
    · exact Memory.wf_write _ _ h
    · exact h

/-- The byte stored to holds the stored byte. -/
theorem State.byteAt_busWrite_same (s : State) (a : Addr) (v : Byte) (h : s.mem.wf = true) (p : Nat)
    (hp : s.storeAddr a = some p) : (s.busWrite a v).byteAt p = s.storedByte a v := by
  have ha : a ≠ 0xFF46 := by
    rintro rfl
    cases hp
  have hm := s.mem_busWrite a v ha
  rw [hp] at hm
  rw [State.byteAt, hm, Memory.read_write _ _ _ h, if_pos rfl]

/-- Every other byte reads as before, but for the OAM copy of a write to FF46. -/
theorem State.byteAt_busWrite_other (s : State) (a : Addr) (v : Byte) (h : s.mem.wf = true) (p : Nat)
    (hp : s.storeAddr a ≠ some p) (ho : ¬(a = 0xFF46 ∧ 0xFE00 ≤ p ∧ p < 0xFEA0)) :
    (s.busWrite a v).byteAt p = s.byteAt p := by
  by_cases ha : a = 0xFF46
  · subst ha
    obtain ⟨m, hm, hw⟩ := s.startDma_spec v
    have hb : s.busWrite 0xFF46 v = s.startDma v := rfl
    rw [hb, hm]
    have hp' : p < 0xFE00 ∨ 0xFEA0 ≤ p := by
      rcases Nat.lt_or_ge p 0xFE00 with h1 | h1
      · exact .inl h1
      · exact .inr (Nat.le_of_not_lt fun h2 => ho ⟨rfl, h1, h2⟩)
    exact (hw h).2 p hp'
  · have hm := s.mem_busWrite a v ha
    rw [State.byteAt, hm]
    split
    · rename_i q hq
      rw [Memory.read_write _ _ _ h, if_neg (fun hpq => hp (by rw [hq, hpq]))]
      rfl
    · rfl

/-- `MemWrite`: the fault of R120, or the bus write. -/
theorem State.memWrite_ok (s : State) (op : Byte) (a : Addr) (v : Byte) (h : s.dmaHolds a = false) :
    s.memWrite op a v = .ok (s.busWrite a v) := by
  simp [State.memWrite, h]

end Sys2Proof.Machine
end

