-- ==== Sys2Proof/Laws/Devices.lean ====
section
/-! SUPPORT. The devices: what one T-cycle of each and an advance of many can change. -/

namespace Sys2Proof.Machine

/-- The joypad sample touches `p1_lines_prev` and the requests. -/
theorem State.joypadSample_spec (s : State) :
    ∃ q, s.joypadSample =
      { s with joypad := { s.joypad with linesPrev := s.joypad.lines }, irq := { s.irq with req := q } } := by
  unfold State.joypadSample State.request
  dsimp only
  split
  · exact ⟨_, rfl⟩
  · exact ⟨s.irq.req, rfl⟩

/-- A T-cycle of the timer touches the timer and the requests, and adds 1 to the counter. -/
theorem State.timerTick_spec (s : State) :
    ∃ t q, s.timerTick = { s with timer := t, irq := { s.irq with req := q } } ∧ t.counter = s.timer.counter + 1
      ∧ t.tac = s.timer.tac ∧ t.tma = s.timer.tma ∧ t.signal = t.sig := by
  obtain ⟨t, q, h, h1, h2, h3, h4⟩ :=
    ({ s with timer := { s.timer with counter := s.timer.counter + 1 } } : State).timerEdge_spec
  refine ⟨t, q, h, h1, h2, h3, ?_⟩
  rw [h4, Timer.sig, Timer.sig, h1, h2]

/-- A T-cycle of the serial port touches the port and the requests, and keeps its counters in range. -/
theorem State.serialTick_spec (s : State) :
    ∃ p q, s.serialTick = { s with serial := p, irq := { s.irq with req := q } }
      ∧ (s.serial.bits < 8 → s.serial.clock < 512 → p.bits < 8 ∧ p.clock < 512) := by
  unfold State.serialTick State.request
  dsimp only
  split
  · split
    · split
      · exact ⟨_, _, rfl, fun _ _ => ⟨Nat.zero_lt_succ 7, Nat.zero_lt_succ 511⟩⟩
      · refine ⟨_, s.irq.req, rfl, fun hb _ => ⟨?_, Nat.zero_lt_succ 511⟩⟩
        dsimp only
        omega
    · refine ⟨_, s.irq.req, rfl, fun hb hc => ⟨hb, ?_⟩⟩
      dsimp only
      omega
  · exact ⟨s.serial, s.irq.req, rfl, fun hb hc => ⟨hb, hc⟩⟩

theorem State.dmaTick_spec (s : State) :
    s.dmaTick = { s with dma := { s.dma with
      remaining := if s.info.dmaWritten then s.dma.remaining else s.dma.remaining - 1 } } := by
  unfold State.dmaTick
  split <;> rfl

theorem State.nextLine_spec (s : State) :
    ∃ p q l, s.nextLine =
      { s with ppu := p, irq := { s.irq with req := q }, info := { s.info with calls := s.info.calls ++ l } } := by
  unfold State.nextLine State.request State.call
  dsimp only
  split
  · exact ⟨_, _, _, rfl⟩
  · exact ⟨_, s.irq.req, [], by rw [List.append_nil]⟩

theorem State.statLineUpdate_spec (s : State) :
    ∃ q, s.statLineUpdate =
      { s with ppu := { s.ppu with statLine := s.ppu.statCondition }, irq := { s.irq with req := q } } := by
  unfold State.statLineUpdate State.request
  dsimp only
  split
  · exact ⟨_, rfl⟩
  · exact ⟨s.irq.req, rfl⟩

/-- A dot touches the PPU, the requests and the list of display calls, which only grows. -/
theorem State.ppuDot_spec (s : State) :
    ∃ p q l, s.ppuDot =
      { s with ppu := p, irq := { s.irq with req := q }, info := { s.info with calls := s.info.calls ++ l } } := by
  by_cases hon : s.ppu.lcdOn = true
  · have h1 : ∃ p q l, (if s.ppu.dot + 1 = Config.lineDots then s.nextLine
        else { s with ppu := { s.ppu with dot := s.ppu.dot + 1 } } : State) =
        { s with ppu := p, irq := { s.irq with req := q }, info := { s.info with calls := s.info.calls ++ l } } := by
      by_cases h : s.ppu.dot + 1 = Config.lineDots
      · rw [if_pos h]
        exact s.nextLine_spec
      · rw [if_neg h]
        exact ⟨_, s.irq.req, [], by rw [List.append_nil]⟩
    have h2 (u : State) (m : PpuMode) : ∃ p l, (if m = .drawing ∧ u.ppu.mode ≠ .drawing then u.renderLine else u) =
        { u with ppu := p, info := { u.info with calls := u.info.calls ++ l } } := by
      by_cases h : m = .drawing ∧ u.ppu.mode ≠ .drawing
      · rw [if_pos h]
        exact ⟨_, _, rfl⟩
      · rw [if_neg h]
        exact ⟨u.ppu, [], by rw [List.append_nil]⟩
    unfold State.ppuDot
    rw [if_pos hon]
    dsimp only
    obtain ⟨p, q, l, h⟩ := h1
    rw [h]
    obtain ⟨p', l', h'⟩ := h2
      { s with ppu := p, irq := { s.irq with req := q }, info := { s.info with calls := s.info.calls ++ l } }
      (modeOf p.ly p.dot)
    rw [h']
    obtain ⟨q', h''⟩ := State.statLineUpdate_spec
      { s with
        ppu := { p' with mode := modeOf p.ly p.dot }
        irq := { s.irq with req := q }
        info := { s.info with calls := s.info.calls ++ l ++ l' } }
    refine ⟨{ p' with
        mode := modeOf p.ly p.dot
        statLine := ({ p' with mode := modeOf p.ly p.dot } : Ppu).statCondition }, q', l ++ l', h''.trans ?_⟩
    rw [← List.append_assoc]
  · unfold State.ppuDot
    rw [if_neg hon]
    exact ⟨s.ppu, s.irq.req, [], by rw [List.append_nil]⟩

/-- An advance leaves the CPU, IE, the joypad, the cartridge, the memory, the fault and the draws as they are, and of the
step's record only the display calls grow. -/
theorem advanceDevices_spec (n : Nat) (s : State) :
    ∃ t se p d q l, advanceDevices n s =
      { s with
        timer := t
        serial := se
        ppu := p
        dma := { s.dma with remaining := d }
        irq := { s.irq with req := q }
        info := { s.info with calls := s.info.calls ++ l } } := by
  induction n generalizing s with
  | zero => exact ⟨s.timer, s.serial, s.ppu, s.dma.remaining, s.irq.req, [], by rw [List.append_nil]; rfl⟩
  | succ n ih =>
    obtain ⟨t1, q1, h1, -⟩ := s.timerTick_spec
    obtain ⟨se, q2, h2, -⟩ := s.timerTick.serialTick_spec
    obtain ⟨p, q4, l1, h4⟩ := s.timerTick.serialTick.dmaTick.ppuDot_spec
    obtain ⟨t, se', p', d, q, l2, h⟩ := ih s.deviceTick
    refine ⟨t, se', p', d, q, l1 ++ l2, ?_⟩
    have hd : s.deviceTick = s.timerTick.serialTick.dmaTick.ppuDot := rfl
    rw [advanceDevices, h, hd, h4, State.dmaTick_spec, h2, h1]
    dsimp only
    rw [List.append_assoc]

end Sys2Proof.Machine
end

