-- ==== Sys2Proof/Laws/Advance.lean ====
section
/-! SUPPORT. The frame of the device advance, one device at a time: each T-cycle keeps what `AdvanceKeeps` keeps, and what
two advances keep one after the other is kept by both together. -/

namespace Sys2Proof.Machine

theorem AdvanceKeeps.refl (s : State) : AdvanceKeeps s s := ⟨rfl, rfl, fun _ h => h, List.prefix_rfl⟩

theorem AdvanceKeeps.trans {s t u : State} (h : AdvanceKeeps s t) (g : AdvanceKeeps t u) : AdvanceKeeps s u := by
  obtain ⟨h1, h2, h3, h4⟩ := h
  obtain ⟨g1, g2, g3, g4⟩ := g
  refine ⟨?_, g2.trans h2, fun i hi => g3 i (h3 i hi), h4.trans g4⟩
  have e (a b : State) : a = b ↔ a.cpu = b.cpu ∧ a.irq = b.irq ∧ a.timer = b.timer ∧ a.serial = b.serial
      ∧ a.joypad = b.joypad ∧ a.ppu = b.ppu ∧ a.dma = b.dma ∧ a.cart = b.cart ∧ a.mem = b.mem ∧ a.fault = b.fault
      ∧ a.draws = b.draws ∧ a.info = b.info := by
    cases a
    cases b
    simp
  rw [g1]
  rw [e] at h1 ⊢
  obtain ⟨c1, c2, c3, c4, c5, c6, c7, c8, c9, c10, c11, c12⟩ := h1
  dsimp only at *
  exact ⟨c1, by rw [c2], by rw [c3], by rw [c4], c5, by rw [c6], by rw [c7], c8, c9, c10, c11, by rw [c12]⟩

theorem State.timerTick_keeps (s : State) : AdvanceKeeps s s.timerTick := by
  unfold State.timerTick State.timerEdge State.timaIncrement State.request
  dsimp only
  split_ifs <;> refine ⟨?_, ?_, ?_, ?_⟩ <;> simp_all

theorem State.serialTick_keeps (s : State) : AdvanceKeeps s s.serialTick := by
  unfold State.serialTick State.request
  dsimp only
  split_ifs <;> refine ⟨?_, ?_, ?_, ?_⟩ <;> simp_all

theorem State.dmaTick_keeps (s : State) : AdvanceKeeps s s.dmaTick := by
  rw [State.dmaTick_spec]
  exact ⟨rfl, rfl, fun _ h => h, List.prefix_rfl⟩

theorem State.ppuDot_keeps (s : State) : AdvanceKeeps s s.ppuDot := by
  by_cases hon : s.ppu.lcdOn = true
  · unfold State.ppuDot State.nextLine State.statLineUpdate State.renderLine State.request State.call
    rw [if_pos hon]
    dsimp only
    split_ifs <;> refine ⟨?_, ?_, ?_, ?_⟩ <;> simp_all
  · unfold State.ppuDot
    rw [if_neg hon]
    exact AdvanceKeeps.refl s

end Sys2Proof.Machine
end

