-- ==== Sys2Proof/Laws/Cartridge.lean ====
section
/-! SUPPORT. The regions by address, the targets of the window of cartridge RAM and the clock's registers: what the
machine's own functions are in the terms of `Safety.lean`. -/

namespace Sys2Proof.Machine

/-! ## Regions (`spec/20_memory.md` R101) -/

theorem regionOf_rom {a : Addr} (h : a.toNat < 0x8000) : regionOf a = .rom := by
  simp only [regionOf]
  rw [if_pos h]

theorem regionOf_vram {a : Addr} (h1 : 0x8000 ≤ a.toNat) (h2 : a.toNat < 0xA000) : regionOf a = .vram := by
  simp only [regionOf]
  rw [if_neg (by omega), if_pos h2]

theorem regionOf_cartRam {a : Addr} (h1 : 0xA000 ≤ a.toNat) (h2 : a.toNat < 0xC000) : regionOf a = .cartRam := by
  simp only [regionOf]
  rw [if_neg (by omega), if_neg (by omega), if_pos h2]

theorem regionOf_wram {a : Addr} (h1 : 0xC000 ≤ a.toNat) (h2 : a.toNat < 0xE000) : regionOf a = .wram := by
  simp only [regionOf]
  rw [if_neg (by omega), if_neg (by omega), if_neg (by omega), if_pos h2]

/-- From FF00 on OAM DMA holds nothing (R119). -/
theorem State.memRead_high (s : State) {a : Addr} (h : 0xFF00 ≤ a.toNat) : s.memRead a = s.busRead a := by
  rw [State.memRead, if_neg]
  simp only [State.dmaHolds, Bool.and_eq_true, decide_eq_true_eq, not_and, Nat.not_lt]
  exact fun _ => h

/-! ## The RTC registers (`spec/21_cartridge_mbc.md` R215, R216, R224) -/

theorem rtcRegOf_none {n : BitVec 4} (h : rtcRegOf n = none) : n.toNat < 8 ∨ 13 ≤ n.toNat := by
  revert n
  decide

theorem rtcRegOf_range {n : BitVec 4} {r : RtcReg} (h : rtcRegOf n = some r) : 8 ≤ n.toNat ∧ n.toNat < 13 := by
  unfold rtcRegOf at h
  split at h <;> cases h <;> omega

theorem Rtc.get_eq_number (t : Rtc) {n : BitVec 4} {r : RtcReg} (h : rtcRegOf n = some r) :
    t.get r = BitVec.ofNat 8 (t.number n.toNat) := by
  unfold rtcRegOf at h
  split at h <;> cases h <;> rename_i hn <;> rw [hn] <;> simp [Rtc.get, Rtc.number]
  cases t.day8 <;> cases t.halt <;> cases t.carry <;> rfl

theorem Rtc.put_eq_stored (t : Rtc) {n : BitVec 4} {r : RtcReg} (v : Byte) (h : rtcRegOf n = some r) :
    t.put r v = t.stored n.toNat v := by
  unfold rtcRegOf at h
  split at h <;> cases h <;> rename_i hn <;> rw [hn] <;> simp [Rtc.put, Rtc.stored] <;> (revert v; decide)

/-- The day counter has nine bits. -/
theorem Rtc.day_lt (t : Rtc) : t.day < 512 := by
  have := t.dl.isLt
  unfold Rtc.day
  split <;> omega

/-- A day carry moves the day counter one on, modulo 512, and touches the sticky carry alone besides. -/
theorem Rtc.tickDay_spec (t : Rtc) :
    t.tickDay.day = (if t.day = 511 then 0 else t.day + 1) ∧ t.tickDay.carry = (t.carry || decide (t.day = 511))
      ∧ t.tickDay.s = t.s ∧ t.tickDay.m = t.m ∧ t.tickDay.h = t.h ∧ t.tickDay.halt = t.halt := by
  have hd := t.day_lt
  have key : ∀ n : Nat, n < 512 → (if decide (256 ≤ n) = true then 256 else 0) + (BitVec.ofNat 8 n).toNat = n := by
    intro n hn
    rw [BitVec.toNat_ofNat]
    simp only [decide_eq_true_eq]
    split <;> omega
  refine ⟨?_, rfl, rfl, rfl, rfl, rfl⟩
  exact key _ (by split <;> omega)

/-! ## Sprites (`spec/62_ppu.md` R680) -/

/-- A tile's colour number is its two bits. -/
theorem State.tileColour_toNat (s : State) (t row col : Nat) : (tileColour s.mem t row col).toNat = s.tileNumber t row col := by
  unfold tileColour State.tileNumber State.byteAt
  dsimp only
  cases (s.mem.read (t + 2 * row + 1)).getLsbD (7 - col) <;> cases (s.mem.read (t + 2 * row)).getLsbD (7 - col) <;> rfl

/-- The clock edge in plain numbers (`spec/60_exceptions.md` R624). -/
theorem State.timerEdge_eq_timerWritten (s : State) (c : BitVec 16) (tac : BitVec 3) :
    ({ s with timer := { s.timer with counter := c, tac := tac } } : State).timerEdge =
      s.timerWritten c tac (tac.getLsbD 2 && c.getLsbD (tacBit tac)) := by
  unfold State.timerEdge Timer.sig State.timerWritten State.timaIncrement State.request
  dsimp only
  generalize (tac.getLsbD 2 && c.getLsbD (tacBit tac)) = o
  have hinc : s.timer.tima + 1 = BitVec.ofNat 8 (s.timer.tima.toNat + 1) := by
    apply BitVec.eq_of_toNat_eq
    simp
  cases hsig : s.timer.signal <;> cases o <;> simp <;> split <;> simp_all

end Sys2Proof.Machine
end

