-- ==== Sys2Proof/Laws/Exec.lean ====
section
/-! SUPPORT. The meaning of each family of instructions as one equation: what a proof about `exec` rewrites with. -/

namespace Sys2Proof.Machine

/-! ## Loads -/

theorem exec_ldRR (dst src : Reg8) (s : State) : exec (.ldRR dst src) s = ldRegReg dst src s := by
  cases dst <;> cases src <;> rfl
theorem exec_ldRN (dst : Reg8) (n : Byte) (s : State) : exec (.ldRN dst n) s = ldRegImm dst n s := by cases dst <;> rfl
theorem exec_ldRHL (dst : Reg8) (s : State) : exec (.ldRHL dst) s = loadReg dst s.hl 8 s := by cases dst <;> rfl
theorem exec_ldHLR (src : Reg8) (s : State) :
    exec (.ldHLR src) s = storeByte (opcodeOf (.ldHLR src)) s.hl (s.reg src) 8 s := by cases src <;> rfl
theorem exec_ldRpN (p : Rp) (n : Addr) (s : State) : exec (.ldRpN p n) s = ldPairImm p n s := by cases p <;> rfl
theorem exec_push (p : Rp2) (s : State) : exec (.push p) s = pushPair (opcodeOf (.push p)) p s := by cases p <;> rfl
theorem exec_pop (p : Rp2) (s : State) : exec (.pop p) s = popPair p s := by cases p <;> rfl

/-! ## Arithmetic -/

theorem exec_aluR (op : AluOp) (r : Reg8) (s : State) : exec (.aluR op r) s = aluReg op r s := by
  cases op <;> cases r <;> rfl
theorem exec_aluHL (op : AluOp) (s : State) : exec (.aluHL op) s = aluMem op s := by cases op <;> rfl
theorem exec_aluN (op : AluOp) (n : Byte) (s : State) : exec (.aluN op n) s = aluImm op n s := by cases op <;> rfl
theorem exec_incR (r : Reg8) (s : State) : exec (.incR r) s = updReg inc8 r 4 s := by cases r <;> rfl
theorem exec_decR (r : Reg8) (s : State) : exec (.decR r) s = updReg dec8 r 4 s := by cases r <;> rfl
theorem exec_incRp (p : Rp) (s : State) : exec (.incRp p) s = addPair p 1 s := by cases p <;> rfl
theorem exec_decRp (p : Rp) (s : State) : exec (.decRp p) s = addPair p (-1) s := by cases p <;> rfl
theorem exec_addHLRp (p : Rp) (s : State) : exec (.addHLRp p) s = addHLPair p s := by cases p <;> rfl

/-! ## Rotates, shifts and bits -/

theorem exec_rotR (op : RotOp) (r : Reg8) (s : State) : exec (.rotR op r) s = updReg (rot8 op) r 8 s := by
  cases op <;> cases r <;> rfl
theorem exec_rotHL (op : RotOp) (s : State) : exec (.rotHL op) s = updMem 0xCB (rot8 op) 16 s := by cases op <;> rfl
theorem exec_bitR (b : Idx8) (r : Reg8) (s : State) : exec (.bitR b r) s = bitReg b r s := by
  cases b <;> cases r <;> rfl
theorem exec_bitHL (b : Idx8) (s : State) : exec (.bitHL b) s = bitMem b s := by cases b <;> rfl
theorem exec_resR (b : Idx8) (r : Reg8) (s : State) : exec (.resR b r) s = mapReg (res8 b) r s := by
  cases b <;> cases r <;> rfl
theorem exec_resHL (b : Idx8) (s : State) : exec (.resHL b) s = mapMem 0xCB (res8 b) s := by cases b <;> rfl
theorem exec_setR (b : Idx8) (r : Reg8) (s : State) : exec (.setR b r) s = mapReg (set8 b) r s := by
  cases b <;> cases r <;> rfl
theorem exec_setHL (b : Idx8) (s : State) : exec (.setHL b) s = mapMem 0xCB (set8 b) s := by cases b <;> rfl

/-- The page by fields is the page by constructors. -/
theorem exec_decodeCb (o : Byte) (s : State) : exec (decodeCb o) s = cbPage o s := by
  unfold decodeCb cbPage
  generalize fieldX o = x
  generalize r8 (fieldZ o) = r
  rcases x with _ | _ | _ | _ <;> cases r <;> simp only [exec_rotR, exec_rotHL, exec_bitR, exec_bitHL, exec_resR, exec_resHL, exec_setR, exec_setHL]

/-! ## Control transfer -/

theorem exec_jpCc (cnd : Cond) (n : Addr) (s : State) : exec (.jpCc cnd n) s = jumpIf cnd n 16 12 s := by cases cnd <;> rfl
theorem exec_jrCc (cnd : Cond) (e : Byte) (s : State) : exec (.jrCc cnd e) s = jumpIf cnd (relTarget e s) 12 8 s := by
  cases cnd <;> rfl
theorem exec_callCc (cnd : Cond) (n : Addr) (s : State) :
    exec (.callCc cnd n) s = callIf (opcodeOf (.callCc cnd n)) cnd n s := by cases cnd <;> rfl
theorem exec_retCc (cnd : Cond) (s : State) : exec (.retCc cnd) s = retIf cnd s := by cases cnd <;> rfl
theorem exec_rst (y : Idx8) (s : State) : exec (.rst y) s = rstTo (opcodeOf (.rst y)) y s := by cases y <;> rfl

/-! ## Illegal opcodes -/

theorem exec_illegal (o : IllegalOp) (s : State) : exec (.illegal o) s = illegalOpcode (opcodeOf (.illegal o)) s := by
  cases o <;> rfl

end Sys2Proof.Machine
end

