-- ==== Sys2Proof/Laws/Host.lean ====
section
/-! SUPPORT. The host's operations: what a save, a load, a dump and the loop of `doTick` can do, once each. -/

namespace Sys2Proof.Machine

/-! ## The two parts of the memory -/

theorem Memory.wfFrom_filter {lo : Nat} {m : Memory} (f : Host.Cell → Bool) (h : m.wfFrom lo = true) :
    Memory.wfFrom lo (m.filter f) = true := by
  induction m generalizing lo with
  | nil => rfl
  | cons c rest ih =>
    simp only [Memory.wfFrom, Bool.and_eq_true, decide_eq_true_eq] at h
    by_cases hc : f c = true
    · rw [List.filter_cons_of_pos hc]
      simp only [Memory.wfFrom, Bool.and_eq_true, decide_eq_true_eq]
      exact ⟨h.1, ih h.2⟩
    · rw [List.filter_cons_of_neg hc]
      exact Memory.wfFrom_mono (by omega) (ih h.2)

theorem Memory.wf_ramPart {m : Memory} (h : m.wf = true) : m.ramPart.wf = true := Memory.wfFrom_filter _ h

theorem Memory.romPart_of_wfFrom {lo : Nat} {m : Memory} (h : m.wfFrom lo = true) (hlo : romBase ≤ lo) :
    m.romPart = m ∧ m.ramPart = [] := by
  induction m generalizing lo with
  | nil => exact ⟨rfl, rfl⟩
  | cons c rest ih =>
    simp only [Memory.wfFrom, Bool.and_eq_true, decide_eq_true_eq] at h
    obtain ⟨h1, h2⟩ := ih h.2 (by omega)
    simp only [Memory.romPart, Memory.ramPart] at h1 h2 ⊢
    rw [List.filter_cons_of_pos (by simpa using by omega), List.filter_cons_of_neg (by simpa using by omega), h1, h2]
    exact ⟨rfl, rfl⟩

theorem Memory.ramPart_append_romPart_from {lo : Nat} {m : Memory} (h : m.wfFrom lo = true) : m.ramPart ++ m.romPart = m := by
  induction m generalizing lo with
  | nil => rfl
  | cons c rest ih =>
    simp only [Memory.wfFrom, Bool.and_eq_true, decide_eq_true_eq] at h
    by_cases hc : c.1 < romBase
    · simp only [Memory.romPart, Memory.ramPart] at ih ⊢
      rw [List.filter_cons_of_pos (by simpa using hc), List.filter_cons_of_neg (by simpa using hc), List.cons_append, ih h.2]
    · have hw : Memory.wfFrom c.1 (c :: rest) = true := by
        simp only [Memory.wfFrom, Bool.and_eq_true, decide_eq_true_eq]
        exact ⟨⟨le_rfl, h.1.2⟩, h.2⟩
      obtain ⟨h1, h2⟩ := Memory.romPart_of_wfFrom hw (by omega)
      rw [h1, h2]
      rfl

/-- A memory in canonical form is its two parts, one after the other. -/
theorem Memory.ramPart_append_romPart {m : Memory} (h : m.wf = true) : m.ramPart ++ m.romPart = m :=
  Memory.ramPart_append_romPart_from h

/-- Behind entries below the image, the image reads as it did. -/
theorem Memory.read_append_romPart {k : Memory} (m : Memory) (hk : ∀ c ∈ k, c.1 < romBase) (i : Nat) :
    Memory.read (k ++ m.romPart) (romBase + i) = m.read (romBase + i) := by
  induction k with
  | nil =>
    simp only [List.nil_append]
    induction m with
    | nil => rfl
    | cons c rest ih =>
      by_cases hc : c.1 < romBase
      · simp only [Memory.romPart] at ih ⊢
        rw [List.filter_cons_of_neg (by simpa using hc), ih, Memory.read, if_neg (by omega)]
      · simp only [Memory.romPart] at ih ⊢
        rw [List.filter_cons_of_pos (by simpa using hc), Memory.read, Memory.read, ih]
  | cons c rest ih =>
    have := hk c List.mem_cons_self
    rw [List.cons_append, Memory.read, if_neg (by omega)]
    exact ih fun d hd => hk d (List.mem_cons_of_mem _ hd)

/-! ## Save states (R790) -/

theorem State.saveState_ok {s : State} (h : s.cart.status = .loaded) : s.saveState = .ok s.blob := by
  rw [State.saveState, if_neg (not_not.mpr h)]

/-- What a save state holds fits every cartridge of its variant. -/
theorem State.blob_fits {s : State} (h : s.mem.wf = true) (c : Cart) (hv : s.cart.mbc.variant = c.mbc.variant) :
    s.blob.content.fits c = true := by
  simp only [State.blob, SavedState.fits, hv, decide_true, Memory.wf_ramPart h, Bool.true_and, List.all_eq_true]
  intro d hd
  exact (List.mem_filter.mp hd).2

/-- Everything an accepted load does: the checks it passed, and the state it leaves. -/
theorem State.loadState_ok {s t : State} {b : SaveBlob} (h : s.loadState b = .ok t) :
    s.cart.status = .loaded ∧ b.version = Config.saveStateVersion ∧ b.size = s.cart.blobSize ∧ b.image = s.imageId
      ∧ b.content.mbc.variant = s.cart.mbc.variant ∧ b.content.ram.wf = true ∧ (∀ c ∈ b.content.ram, c.1 < romBase)
      ∧ t = s.restore b.content := by
  unfold State.loadState at h
  repeat' split at h
  all_goals cases h
  rename_i h1 h2 h3 h4
  simp only [SavedState.fits, Bool.not_eq_false, Bool.and_eq_true, decide_eq_true_eq, List.all_eq_true] at h4
  rw [not_or, not_not, not_not] at h2
  exact ⟨not_not.mp h1, h2.1, h2.2, not_not.mp h3, h4.1.1, h4.1.2, h4.2, rfl⟩

/-- A load keeps every byte of the image (`spec/21_cartridge_mbc.md` R191). -/
theorem State.byteAt_loadState {s t : State} {b : SaveBlob} (h : s.loadState b = .ok t) (i : Nat) :
    t.byteAt (romBase + i) = s.byteAt (romBase + i) := by
  obtain ⟨-, -, -, -, -, -, hr, rfl⟩ := State.loadState_ok h
  exact Memory.read_append_romPart s.mem hr i

/-! ## Cartridge RAM (R788) -/

/-- Bytes written one after another from `base + n` on, each through `f`. -/
theorem Memory.foldl_write_spec (base : Nat) (f : Byte → Byte) (l : List Byte) (n : Nat) (m : Memory) (h : m.wf = true) :
    ((l.zipIdx n).foldl (fun m c => m.write (base + c.2) (f c.1)) m).wf = true
      ∧ (∀ (i : Nat) (v : Byte), l[i]? = some v →
        Memory.read ((l.zipIdx n).foldl (fun m c => m.write (base + c.2) (f c.1)) m) (base + n + i) = f v)
      ∧ ∀ p, p < base + n ∨ base + n + l.length ≤ p →
        Memory.read ((l.zipIdx n).foldl (fun m c => m.write (base + c.2) (f c.1)) m) p = m.read p := by
  induction l generalizing n m with
  | nil => exact ⟨h, fun i v hv => by simp at hv, fun _ _ => rfl⟩
  | cons b rest ih =>
    rw [List.zipIdx_cons, List.foldl_cons]
    obtain ⟨h1, h2, h3⟩ := ih (n + 1) (m.write (base + n) (f b)) (Memory.wf_write _ _ h)
    refine ⟨h1, fun i v hv => ?_, fun p hp => ?_⟩
    · cases i with
      | zero =>
        cases hv
        rw [h3 _ (by omega), Memory.read_write _ _ _ h, if_pos (by omega)]
      | succ i =>
        rw [show base + n + (i + 1) = base + (n + 1) + i by omega]
        exact h2 i v hv
    · rw [List.length_cons] at hp
      rw [h3 p (by omega), Memory.read_write _ _ _ h, if_neg (by omega)]

/-! ## The loop of `doTick` (R781) -/

/-- The loop reads a state only through its step. -/
theorem tickLoop_congr {s u : State} (h : step s = step u) (n b : Nat) (c : List DisplayCall) :
    tickLoop (n + 1) b s c = tickLoop (n + 1) b u c := by
  rw [tickLoop, tickLoop, h]

/-- A state that a step leaves as it is, at a positive cost and without a call, ends the loop with mask 00. -/
theorem tickLoop_fixed {s : State} (h : step s = .next s) (hf : s.fault = none) (hr : s.ppu.frameReady = false)
    (hc : s.info.calls = []) (n b : Nat) (c : List DisplayCall) :
    tickLoop n b s c = .next { mask := 0, state := s, calls := c } := by
  induction n generalizing b with
  | zero => rfl
  | succ n ih =>
    rw [tickLoop, h]
    simp only [hf, hr, hc, List.append_nil, Option.isSome_none, Bool.false_eq_true, if_false]
    split
    · rfl
    · exact ih _

end Sys2Proof.Machine
end

