-- ==== Sys2Proof/Laws/Loader.lean ====
section
/-! SUPPORT. The loader: what an accepted image says of its cartridge, and what the memory reads as after a load. -/

namespace Sys2Proof.Machine

/-- Everything an accepted image says of its cartridge (`spec/21_cartridge_mbc.md` R182 to R189). -/
theorem RomImage.parse_ok {f : RomImage} {c : Cart} (h : f.parse = .ok c) :
    ∃ t ram, cartTypeOf (f.at 0x0147) = some t ∧ t.variant.ramSize (f.at 0x0149) = some ram ∧ ram ≤ t.variant.maxRam
      ∧ f.len ≤ Config.romLimit
      ∧ c =
        { status := .loaded, header := f.header, romBanks := f.len / Config.romBankSize, ramSize := ram
          battery := t.battery, rtc := t.rtc, rumble := t.rumble, mbc := t.variant.powerOn } := by
  unfold RomImage.parse at h
  split at h
  · cases h
  · rename_i hl
    split at h
    · cases h
    · split at h
      · cases h
      · split at h
        · cases h
        · rename_i t ht
          split at h
          · cases h
          · split at h
            · cases h
            · rename_i ram hr
              split at h
              · cases h
              · rename_i hm
                cases h
                exact ⟨t, ram, ht, hr, by omega, by omega, rfl⟩

/-- The power-on registers are of their variant. -/
@[simp] theorem Variant.variant_powerOn (v : Variant) : v.powerOn.variant = v := by cases v <;> rfl

/-- R188: no variant addresses more than 128 KiB of RAM. -/
theorem Variant.maxRam_le (v : Variant) : v.maxRam ≤ 131072 := by cases v <;> decide

/-- What is placed reads as the source where `keep` admits its offset, if every place read 0 before; the rest of the
memory is as it was. -/
theorem Memory.place_spec (base : Nat) (keep : Nat → Bool) (f : Byte → Byte) (src : Memory) (m : Memory)
    (h : m.wf = true) :
    (Memory.place base keep f src m).wf = true
      ∧ (∀ i, keep i = true → f 0 = 0 → m.read (base + i) = 0 →
        (Memory.place base keep f src m).read (base + i) = f (src.read i))
      ∧ ∀ p, (∀ i, keep i = true → p ≠ base + i) → (Memory.place base keep f src m).read p = m.read p := by
  have key : ∀ (l : Memory) (m : Memory), m.wf = true →
      Memory.wf (l.foldl (fun acc c => if keep c.1 then acc.write (base + c.1) (f (src.read c.1)) else acc) m) = true
        ∧ (∀ i, keep i = true →
          Memory.read (l.foldl (fun acc c => if keep c.1 then acc.write (base + c.1) (f (src.read c.1)) else acc) m)
              (base + i) =
            if ∃ c ∈ l, c.1 = i then f (src.read i) else m.read (base + i))
        ∧ ∀ p, (∀ i, keep i = true → p ≠ base + i) →
          Memory.read (l.foldl (fun acc c => if keep c.1 then acc.write (base + c.1) (f (src.read c.1)) else acc) m) p =
            m.read p := by
    intro l
    induction l with
    | nil => exact fun m hm => ⟨hm, fun i _ => by simp, fun _ _ => rfl⟩
    | cons c rest ih =>
      intro m hm
      rw [List.foldl_cons]
      by_cases hk : keep c.1 = true
      · rw [if_pos hk]
        obtain ⟨h1, h2, h3⟩ := ih (m.write (base + c.1) (f (src.read c.1))) (Memory.wf_write _ _ hm)
        refine ⟨h1, fun i hi => ?_, fun p hp => ?_⟩
        · rw [h2 i hi, Memory.read_write _ _ _ hm]
          by_cases hc : c.1 = i
          · subst hc
            simp
          · simp [hc, Ne.symm hc]
        · rw [h3 p hp, Memory.read_write _ _ _ hm, if_neg (hp _ hk)]
      · rw [if_neg hk]
        obtain ⟨h1, h2, h3⟩ := ih m hm
        refine ⟨h1, fun i hi => ?_, h3⟩
        rw [h2 i hi]
        have hc : c.1 ≠ i := fun hc => hk (hc ▸ hi)
        simp [hc]
  obtain ⟨h1, h2, h3⟩ := key src m h
  refine ⟨h1, fun i hi hf hm => ?_, h3⟩
  rw [Memory.place, h2 i hi]
  by_cases hc : ∃ c ∈ src, c.1 = i
  · rw [if_pos hc]
  · rw [if_neg hc, hm]
    have hr : ∀ l : Memory, (¬∃ c ∈ l, c.1 = i) → l.read i = 0 := by
      intro l
      induction l with
      | nil => exact fun _ => rfl
      | cons c rest ih =>
        intro hl
        rw [Memory.read, if_neg (fun he => hl ⟨c, List.mem_cons_self, he.symm⟩)]
        exact ih fun ⟨d, hd, he⟩ => hl ⟨d, List.mem_cons_of_mem _ hd, he⟩
    rw [hr src hc, hf]

theorem Mbc.cellMask_zero (m : Mbc) : m.cellMask 0 = 0 := by cases m <;> rfl

theorem internalAddr_lt {p : Nat} (h : internalAddr p = true) : p < cartRamBase := by
  simp only [internalAddr, Bool.or_eq_true, Bool.and_eq_true, decide_eq_true_eq, cartRamBase] at h ⊢
  omega

/-- The memory after a load: the image, cartridge RAM and the internal arrays, each as it was given. -/
theorem loadedMemory_spec (f : RomImage) (c : Cart) (initMem initCartRam : Memory) (hc : c.ramSize ≤ 131072) :
    (loadedMemory f c initMem initCartRam).wf = true
      ∧ (∀ i, i < f.len → (loadedMemory f c initMem initCartRam).read (romBase + i) = f.at i)
      ∧ (∀ i, i < c.ramSize →
        (loadedMemory f c initMem initCartRam).read (cartRamBase + i) = c.mbc.cellMask (initCartRam.read i))
      ∧ ∀ p, internalAddr p = true → (loadedMemory f c initMem initCartRam).read p = initMem.read p := by
  have hb : cartRamBase + 131072 ≤ romBase := by decide
  obtain ⟨a1, a2, a3⟩ := Memory.place_spec 0 internalAddr id initMem [] rfl
  obtain ⟨b1, b2, b3⟩ := Memory.place_spec cartRamBase (fun i => decide (i < c.ramSize)) c.mbc.cellMask initCartRam _ a1
  obtain ⟨c1, c2, c3⟩ := Memory.place_spec romBase (fun i => decide (i < f.len)) id f.bytes _ b1
  refine ⟨c1, fun i hi => ?_, fun i hi => ?_, fun p hp => ?_⟩
  · refine c2 i (decide_eq_true hi) rfl ?_
    rw [b3 _ fun j hj => by have := of_decide_eq_true hj; omega, a3 _ fun j hj => by have := internalAddr_lt hj; omega]
    rfl
  · refine (c3 _ fun j _ => by omega).trans (b2 i (decide_eq_true hi) c.mbc.cellMask_zero ?_)
    rw [a3 _ fun j hj => by have := internalAddr_lt hj; omega]
    rfl
  · have hlt := internalAddr_lt hp
    refine (c3 _ fun j _ => by omega).trans ((b3 _ fun j _ => by omega).trans ?_)
    have := a2 p hp rfl rfl
    rwa [Nat.zero_add] at this

end Sys2Proof.Machine
end

