-- ==== Sys2Proof/Laws/State.lean ====
section
/-! SUPPORT. What each update of the state leaves of each field: the small lemmas that spare later proofs from unfolding
a record update. -/

namespace Sys2Proof.Machine

variable (s : State)

/-! ## 8-bit registers -/

@[simp] theorem State.reg_setReg_same (r : Reg8) (v : Byte) : (s.setReg r v).reg r = v := by cases r <;> rfl

theorem State.reg_setReg (r q : Reg8) (v : Byte) : (s.setReg r v).reg q = if q = r then v else s.reg q := by
  cases r <;> cases q <;> rfl

@[simp] theorem State.reg_setReg_ne (r q : Reg8) (v : Byte) (h : q ≠ r) : (s.setReg r v).reg q = s.reg q := by
  rw [State.reg_setReg, if_neg h]

/-! ## `setReg` -/

@[simp] theorem State.irq_setReg (r : Reg8) (v : Byte) : (s.setReg r v).irq = s.irq := by cases r <;> rfl
@[simp] theorem State.timer_setReg (r : Reg8) (v : Byte) : (s.setReg r v).timer = s.timer := by cases r <;> rfl
@[simp] theorem State.serial_setReg (r : Reg8) (v : Byte) : (s.setReg r v).serial = s.serial := by cases r <;> rfl
@[simp] theorem State.joypad_setReg (r : Reg8) (v : Byte) : (s.setReg r v).joypad = s.joypad := by cases r <;> rfl
@[simp] theorem State.ppu_setReg (r : Reg8) (v : Byte) : (s.setReg r v).ppu = s.ppu := by cases r <;> rfl
@[simp] theorem State.dma_setReg (r : Reg8) (v : Byte) : (s.setReg r v).dma = s.dma := by cases r <;> rfl
@[simp] theorem State.cart_setReg (r : Reg8) (v : Byte) : (s.setReg r v).cart = s.cart := by cases r <;> rfl
@[simp] theorem State.mem_setReg (r : Reg8) (v : Byte) : (s.setReg r v).mem = s.mem := by cases r <;> rfl
@[simp] theorem State.fault_setReg (r : Reg8) (v : Byte) : (s.setReg r v).fault = s.fault := by cases r <;> rfl
@[simp] theorem State.draws_setReg (r : Reg8) (v : Byte) : (s.setReg r v).draws = s.draws := by cases r <;> rfl
@[simp] theorem State.info_setReg (r : Reg8) (v : Byte) : (s.setReg r v).info = s.info := by cases r <;> rfl
@[simp] theorem State.cpu_sp_setReg (r : Reg8) (v : Byte) : (s.setReg r v).cpu.sp = s.cpu.sp := by cases r <;> rfl
@[simp] theorem State.cpu_pc_setReg (r : Reg8) (v : Byte) : (s.setReg r v).cpu.pc = s.cpu.pc := by cases r <;> rfl
@[simp] theorem State.cpu_ime_setReg (r : Reg8) (v : Byte) : (s.setReg r v).cpu.ime = s.cpu.ime := by cases r <;> rfl
@[simp] theorem State.cpu_eiDelay_setReg (r : Reg8) (v : Byte) : (s.setReg r v).cpu.eiDelay = s.cpu.eiDelay := by cases r <;> rfl
@[simp] theorem State.cpu_mode_setReg (r : Reg8) (v : Byte) : (s.setReg r v).cpu.mode = s.cpu.mode := by cases r <;> rfl
@[simp] theorem State.cpu_haltBug_setReg (r : Reg8) (v : Byte) : (s.setReg r v).cpu.haltBug = s.cpu.haltBug := by cases r <;> rfl
@[simp] theorem State.flags_setReg (r : Reg8) (v : Byte) : (s.setReg r v).flags = s.flags := by cases r <;> rfl

/-! ## `setFlags` -/

@[simp] theorem State.irq_setFlags (f : Flags) : (s.setFlags f).irq = s.irq := rfl
@[simp] theorem State.timer_setFlags (f : Flags) : (s.setFlags f).timer = s.timer := rfl
@[simp] theorem State.serial_setFlags (f : Flags) : (s.setFlags f).serial = s.serial := rfl
@[simp] theorem State.joypad_setFlags (f : Flags) : (s.setFlags f).joypad = s.joypad := rfl
@[simp] theorem State.ppu_setFlags (f : Flags) : (s.setFlags f).ppu = s.ppu := rfl
@[simp] theorem State.dma_setFlags (f : Flags) : (s.setFlags f).dma = s.dma := rfl
@[simp] theorem State.cart_setFlags (f : Flags) : (s.setFlags f).cart = s.cart := rfl
@[simp] theorem State.mem_setFlags (f : Flags) : (s.setFlags f).mem = s.mem := rfl
@[simp] theorem State.fault_setFlags (f : Flags) : (s.setFlags f).fault = s.fault := rfl
@[simp] theorem State.draws_setFlags (f : Flags) : (s.setFlags f).draws = s.draws := rfl
@[simp] theorem State.info_setFlags (f : Flags) : (s.setFlags f).info = s.info := rfl
@[simp] theorem State.cpu_sp_setFlags (f : Flags) : (s.setFlags f).cpu.sp = s.cpu.sp := rfl
@[simp] theorem State.cpu_pc_setFlags (f : Flags) : (s.setFlags f).cpu.pc = s.cpu.pc := rfl
@[simp] theorem State.cpu_ime_setFlags (f : Flags) : (s.setFlags f).cpu.ime = s.cpu.ime := rfl
@[simp] theorem State.cpu_eiDelay_setFlags (f : Flags) : (s.setFlags f).cpu.eiDelay = s.cpu.eiDelay := rfl
@[simp] theorem State.cpu_mode_setFlags (f : Flags) : (s.setFlags f).cpu.mode = s.cpu.mode := rfl
@[simp] theorem State.cpu_haltBug_setFlags (f : Flags) : (s.setFlags f).cpu.haltBug = s.cpu.haltBug := rfl
@[simp] theorem State.reg_setFlags (f : Flags) (q : Reg8) : (s.setFlags f).reg q = s.reg q := by cases q <;> rfl

@[simp] theorem State.flags_setFlags_same (f : Flags) : (s.setFlags f).flags = f := rfl

@[simp] theorem State.pair_setFlags (f : Flags) (p : Rp) : (s.setFlags f).pair p = s.pair p := by cases p <;> rfl

/-! ## `setSp` -/

@[simp] theorem State.irq_setSp (v : Addr) : (s.setSp v).irq = s.irq := rfl
@[simp] theorem State.timer_setSp (v : Addr) : (s.setSp v).timer = s.timer := rfl
@[simp] theorem State.serial_setSp (v : Addr) : (s.setSp v).serial = s.serial := rfl
@[simp] theorem State.joypad_setSp (v : Addr) : (s.setSp v).joypad = s.joypad := rfl
@[simp] theorem State.ppu_setSp (v : Addr) : (s.setSp v).ppu = s.ppu := rfl
@[simp] theorem State.dma_setSp (v : Addr) : (s.setSp v).dma = s.dma := rfl
@[simp] theorem State.cart_setSp (v : Addr) : (s.setSp v).cart = s.cart := rfl
@[simp] theorem State.mem_setSp (v : Addr) : (s.setSp v).mem = s.mem := rfl
@[simp] theorem State.fault_setSp (v : Addr) : (s.setSp v).fault = s.fault := rfl
@[simp] theorem State.draws_setSp (v : Addr) : (s.setSp v).draws = s.draws := rfl
@[simp] theorem State.info_setSp (v : Addr) : (s.setSp v).info = s.info := rfl
@[simp] theorem State.cpu_pc_setSp (v : Addr) : (s.setSp v).cpu.pc = s.cpu.pc := rfl
@[simp] theorem State.cpu_ime_setSp (v : Addr) : (s.setSp v).cpu.ime = s.cpu.ime := rfl
@[simp] theorem State.cpu_eiDelay_setSp (v : Addr) : (s.setSp v).cpu.eiDelay = s.cpu.eiDelay := rfl
@[simp] theorem State.cpu_mode_setSp (v : Addr) : (s.setSp v).cpu.mode = s.cpu.mode := rfl
@[simp] theorem State.cpu_haltBug_setSp (v : Addr) : (s.setSp v).cpu.haltBug = s.cpu.haltBug := rfl
@[simp] theorem State.flags_setSp (v : Addr) : (s.setSp v).flags = s.flags := rfl
@[simp] theorem State.reg_setSp (v : Addr) (q : Reg8) : (s.setSp v).reg q = s.reg q := by cases q <;> rfl

@[simp] theorem State.cpu_sp_setSp_same (v : Addr) : (s.setSp v).cpu.sp = v := rfl

/-! ## `setPc` -/

@[simp] theorem State.irq_setPc (v : Addr) : (s.setPc v).irq = s.irq := rfl
@[simp] theorem State.timer_setPc (v : Addr) : (s.setPc v).timer = s.timer := rfl
@[simp] theorem State.serial_setPc (v : Addr) : (s.setPc v).serial = s.serial := rfl
@[simp] theorem State.joypad_setPc (v : Addr) : (s.setPc v).joypad = s.joypad := rfl
@[simp] theorem State.ppu_setPc (v : Addr) : (s.setPc v).ppu = s.ppu := rfl
@[simp] theorem State.dma_setPc (v : Addr) : (s.setPc v).dma = s.dma := rfl
@[simp] theorem State.cart_setPc (v : Addr) : (s.setPc v).cart = s.cart := rfl
@[simp] theorem State.mem_setPc (v : Addr) : (s.setPc v).mem = s.mem := rfl
@[simp] theorem State.fault_setPc (v : Addr) : (s.setPc v).fault = s.fault := rfl
@[simp] theorem State.draws_setPc (v : Addr) : (s.setPc v).draws = s.draws := rfl
@[simp] theorem State.info_setPc (v : Addr) : (s.setPc v).info = s.info := rfl
@[simp] theorem State.cpu_sp_setPc (v : Addr) : (s.setPc v).cpu.sp = s.cpu.sp := rfl
@[simp] theorem State.cpu_ime_setPc (v : Addr) : (s.setPc v).cpu.ime = s.cpu.ime := rfl
@[simp] theorem State.cpu_eiDelay_setPc (v : Addr) : (s.setPc v).cpu.eiDelay = s.cpu.eiDelay := rfl
@[simp] theorem State.cpu_mode_setPc (v : Addr) : (s.setPc v).cpu.mode = s.cpu.mode := rfl
@[simp] theorem State.cpu_haltBug_setPc (v : Addr) : (s.setPc v).cpu.haltBug = s.cpu.haltBug := rfl
@[simp] theorem State.flags_setPc (v : Addr) : (s.setPc v).flags = s.flags := rfl
@[simp] theorem State.reg_setPc (v : Addr) (q : Reg8) : (s.setPc v).reg q = s.reg q := by cases q <;> rfl

@[simp] theorem State.cpu_pc_setPc_same (v : Addr) : (s.setPc v).cpu.pc = v := rfl

/-! ## `setPair` -/

@[simp] theorem State.irq_setPair (p : Rp) (v : Addr) : (s.setPair p v).irq = s.irq := by cases p <;> rfl
@[simp] theorem State.timer_setPair (p : Rp) (v : Addr) : (s.setPair p v).timer = s.timer := by cases p <;> rfl
@[simp] theorem State.serial_setPair (p : Rp) (v : Addr) : (s.setPair p v).serial = s.serial := by cases p <;> rfl
@[simp] theorem State.joypad_setPair (p : Rp) (v : Addr) : (s.setPair p v).joypad = s.joypad := by cases p <;> rfl
@[simp] theorem State.ppu_setPair (p : Rp) (v : Addr) : (s.setPair p v).ppu = s.ppu := by cases p <;> rfl
@[simp] theorem State.dma_setPair (p : Rp) (v : Addr) : (s.setPair p v).dma = s.dma := by cases p <;> rfl
@[simp] theorem State.cart_setPair (p : Rp) (v : Addr) : (s.setPair p v).cart = s.cart := by cases p <;> rfl
@[simp] theorem State.mem_setPair (p : Rp) (v : Addr) : (s.setPair p v).mem = s.mem := by cases p <;> rfl
@[simp] theorem State.fault_setPair (p : Rp) (v : Addr) : (s.setPair p v).fault = s.fault := by cases p <;> rfl
@[simp] theorem State.draws_setPair (p : Rp) (v : Addr) : (s.setPair p v).draws = s.draws := by cases p <;> rfl
@[simp] theorem State.info_setPair (p : Rp) (v : Addr) : (s.setPair p v).info = s.info := by cases p <;> rfl
@[simp] theorem State.cpu_pc_setPair (p : Rp) (v : Addr) : (s.setPair p v).cpu.pc = s.cpu.pc := by cases p <;> rfl
@[simp] theorem State.cpu_ime_setPair (p : Rp) (v : Addr) : (s.setPair p v).cpu.ime = s.cpu.ime := by cases p <;> rfl
@[simp] theorem State.cpu_eiDelay_setPair (p : Rp) (v : Addr) : (s.setPair p v).cpu.eiDelay = s.cpu.eiDelay := by cases p <;> rfl
@[simp] theorem State.cpu_mode_setPair (p : Rp) (v : Addr) : (s.setPair p v).cpu.mode = s.cpu.mode := by cases p <;> rfl
@[simp] theorem State.cpu_haltBug_setPair (p : Rp) (v : Addr) : (s.setPair p v).cpu.haltBug = s.cpu.haltBug := by cases p <;> rfl
@[simp] theorem State.flags_setPair (p : Rp) (v : Addr) : (s.setPair p v).flags = s.flags := by cases p <;> rfl

theorem State.cpu_sp_setPair (p : Rp) (v : Addr) (h : p ≠ .sp) : (s.setPair p v).cpu.sp = s.cpu.sp := by
  cases p <;> first | rfl | exact absurd rfl h

@[simp] theorem State.cpu_sp_setPair_hl (v : Addr) : (s.setPair .hl v).cpu.sp = s.cpu.sp := rfl

/-! ## `setPair2` -/

@[simp] theorem State.irq_setPair2 (p : Rp2) (v : Addr) : (s.setPair2 p v).irq = s.irq := by cases p <;> rfl
@[simp] theorem State.timer_setPair2 (p : Rp2) (v : Addr) : (s.setPair2 p v).timer = s.timer := by cases p <;> rfl
@[simp] theorem State.serial_setPair2 (p : Rp2) (v : Addr) : (s.setPair2 p v).serial = s.serial := by cases p <;> rfl
@[simp] theorem State.joypad_setPair2 (p : Rp2) (v : Addr) : (s.setPair2 p v).joypad = s.joypad := by cases p <;> rfl
@[simp] theorem State.ppu_setPair2 (p : Rp2) (v : Addr) : (s.setPair2 p v).ppu = s.ppu := by cases p <;> rfl
@[simp] theorem State.dma_setPair2 (p : Rp2) (v : Addr) : (s.setPair2 p v).dma = s.dma := by cases p <;> rfl
@[simp] theorem State.cart_setPair2 (p : Rp2) (v : Addr) : (s.setPair2 p v).cart = s.cart := by cases p <;> rfl
@[simp] theorem State.mem_setPair2 (p : Rp2) (v : Addr) : (s.setPair2 p v).mem = s.mem := by cases p <;> rfl
@[simp] theorem State.fault_setPair2 (p : Rp2) (v : Addr) : (s.setPair2 p v).fault = s.fault := by cases p <;> rfl
@[simp] theorem State.draws_setPair2 (p : Rp2) (v : Addr) : (s.setPair2 p v).draws = s.draws := by cases p <;> rfl
@[simp] theorem State.info_setPair2 (p : Rp2) (v : Addr) : (s.setPair2 p v).info = s.info := by cases p <;> rfl
@[simp] theorem State.cpu_sp_setPair2 (p : Rp2) (v : Addr) : (s.setPair2 p v).cpu.sp = s.cpu.sp := by cases p <;> rfl
@[simp] theorem State.cpu_pc_setPair2 (p : Rp2) (v : Addr) : (s.setPair2 p v).cpu.pc = s.cpu.pc := by cases p <;> rfl
@[simp] theorem State.cpu_ime_setPair2 (p : Rp2) (v : Addr) : (s.setPair2 p v).cpu.ime = s.cpu.ime := by cases p <;> rfl
@[simp] theorem State.cpu_eiDelay_setPair2 (p : Rp2) (v : Addr) : (s.setPair2 p v).cpu.eiDelay = s.cpu.eiDelay := by cases p <;> rfl
@[simp] theorem State.cpu_mode_setPair2 (p : Rp2) (v : Addr) : (s.setPair2 p v).cpu.mode = s.cpu.mode := by cases p <;> rfl
@[simp] theorem State.cpu_haltBug_setPair2 (p : Rp2) (v : Addr) : (s.setPair2 p v).cpu.haltBug = s.cpu.haltBug := by cases p <;> rfl

/-! ## `addCycles` -/

@[simp] theorem State.irq_addCycles (n : Nat) : (s.addCycles n).irq = s.irq := rfl
@[simp] theorem State.timer_addCycles (n : Nat) : (s.addCycles n).timer = s.timer := rfl
@[simp] theorem State.serial_addCycles (n : Nat) : (s.addCycles n).serial = s.serial := rfl
@[simp] theorem State.joypad_addCycles (n : Nat) : (s.addCycles n).joypad = s.joypad := rfl
@[simp] theorem State.ppu_addCycles (n : Nat) : (s.addCycles n).ppu = s.ppu := rfl
@[simp] theorem State.dma_addCycles (n : Nat) : (s.addCycles n).dma = s.dma := rfl
@[simp] theorem State.cart_addCycles (n : Nat) : (s.addCycles n).cart = s.cart := rfl
@[simp] theorem State.mem_addCycles (n : Nat) : (s.addCycles n).mem = s.mem := rfl
@[simp] theorem State.fault_addCycles (n : Nat) : (s.addCycles n).fault = s.fault := rfl
@[simp] theorem State.draws_addCycles (n : Nat) : (s.addCycles n).draws = s.draws := rfl
@[simp] theorem State.cpu_addCycles (n : Nat) : (s.addCycles n).cpu = s.cpu := rfl
@[simp] theorem State.flags_addCycles (n : Nat) : (s.addCycles n).flags = s.flags := rfl
@[simp] theorem State.reg_addCycles (n : Nat) (q : Reg8) : (s.addCycles n).reg q = s.reg q := by cases q <;> rfl
@[simp] theorem State.pair_addCycles (n : Nat) (q : Rp) : (s.addCycles n).pair q = s.pair q := by cases q <;> rfl

@[simp] theorem State.info_addCycles (n : Nat) :
    (s.addCycles n).info = { s.info with cycles := s.info.cycles + n } := rfl

/-! ## `setByte` -/

@[simp] theorem State.irq_setByte (p : Nat) (v : Byte) : (s.setByte p v).irq = s.irq := rfl
@[simp] theorem State.timer_setByte (p : Nat) (v : Byte) : (s.setByte p v).timer = s.timer := rfl
@[simp] theorem State.serial_setByte (p : Nat) (v : Byte) : (s.setByte p v).serial = s.serial := rfl
@[simp] theorem State.joypad_setByte (p : Nat) (v : Byte) : (s.setByte p v).joypad = s.joypad := rfl
@[simp] theorem State.ppu_setByte (p : Nat) (v : Byte) : (s.setByte p v).ppu = s.ppu := rfl
@[simp] theorem State.dma_setByte (p : Nat) (v : Byte) : (s.setByte p v).dma = s.dma := rfl
@[simp] theorem State.cart_setByte (p : Nat) (v : Byte) : (s.setByte p v).cart = s.cart := rfl
@[simp] theorem State.fault_setByte (p : Nat) (v : Byte) : (s.setByte p v).fault = s.fault := rfl
@[simp] theorem State.draws_setByte (p : Nat) (v : Byte) : (s.setByte p v).draws = s.draws := rfl
@[simp] theorem State.info_setByte (p : Nat) (v : Byte) : (s.setByte p v).info = s.info := rfl
@[simp] theorem State.cpu_setByte (p : Nat) (v : Byte) : (s.setByte p v).cpu = s.cpu := rfl
@[simp] theorem State.flags_setByte (p : Nat) (v : Byte) : (s.setByte p v).flags = s.flags := rfl
@[simp] theorem State.reg_setByte (p : Nat) (v : Byte) (q : Reg8) : (s.setByte p v).reg q = s.reg q := by cases q <;> rfl
@[simp] theorem State.pair_setByte (p : Nat) (v : Byte) (q : Rp) : (s.setByte p v).pair q = s.pair q := by cases q <;> rfl

@[simp] theorem State.mem_setByte (p : Nat) (v : Byte) : (s.setByte p v).mem = s.mem.write p v := rfl

end Sys2Proof.Machine
end

