-- ==== Sys2Proof/Laws/Ops.lean ====
section
/-! SUPPORT. One lemma for each shared operation of the CPU that says what it can do: the stack, a dispatch, a return, the
ends of an instruction and of a step. -/

namespace Sys2Proof.Machine

/-! ## The bus does not look at the CPU -/

theorem State.dmaHolds_congr {s t : State} (h : t.dma = s.dma) (a : Addr) : t.dmaHolds a = s.dmaHolds a := by
  rw [State.dmaHolds, State.dmaHolds, h]

theorem State.ioRead_withCpu (s : State) (c : Cpu) (r : IoReg) :
    ({ s with cpu := c } : State).ioRead r = ((s.ioRead r).1, { (s.ioRead r).2 with cpu := c }) := by
  cases r <;> rfl

theorem State.busRead_withCpu (s : State) (c : Cpu) (a : Addr) :
    ({ s with cpu := c } : State).busRead a = ((s.busRead a).1, { (s.busRead a).2 with cpu := c }) := by
  unfold State.busRead
  cases regionOf a
  case io => exact s.ioRead_withCpu c _
  all_goals rfl

/-- A read does not look at the CPU. -/
theorem State.memRead_withCpu (s : State) (c : Cpu) (a : Addr) :
    ({ s with cpu := c } : State).memRead a = ((s.memRead a).1, { (s.memRead a).2 with cpu := c }) := by
  rw [State.memRead, State.memRead]
  show (if s.dmaHolds a = true then ({ s with cpu := c } : State).draw else ({ s with cpu := c } : State).busRead a) = _
  by_cases h : s.dmaHolds a = true
  · rw [if_pos h, if_pos h]
    rfl
  · rw [if_neg h, if_neg h]
    exact s.busRead_withCpu c a

theorem dmaCopy_withCpu (page : Byte) (i n : Nat) (s : State) (c : Cpu) :
    dmaCopy page i n { s with cpu := c } = { dmaCopy page i n s with cpu := c } := by
  induction n generalizing i s with
  | zero => rfl
  | succ n ih => exact ih (i + 1) (s.setByte (0xFE00 + i) (s.dmaSource (word16 page (BitVec.ofNat 8 i))))

theorem State.timerEdge_withCpu (s : State) (c : Cpu) :
    ({ s with cpu := c } : State).timerEdge = { s.timerEdge with cpu := c } := by
  unfold State.timerEdge State.timaIncrement
  dsimp only
  by_cases h : (s.timer.signal && !s.timer.sig) = true
  · rw [if_pos h, if_pos h]
    by_cases h2 : s.timer.tima = 0xFF
    · rw [if_pos h2, if_pos h2]
      rfl
    · rw [if_neg h2, if_neg h2]
  · rw [if_neg h, if_neg h]

theorem State.ioWrite_withCpu (s : State) (c : Cpu) (r : IoReg) (v : Byte) :
    ({ s with cpu := c } : State).ioWrite r v = { s.ioWrite r v with cpu := c } := by
  cases r
  case dma =>
    show State.startDma _ v = { State.startDma s v with cpu := c }
    unfold State.startDma
    rw [dmaCopy_withCpu]
  case div => exact State.timerEdge_withCpu { s with timer := { s.timer with counter := 0 } } c
  case tac => exact State.timerEdge_withCpu { s with timer := { s.timer with tac := v.setWidth 3 } } c
  all_goals rfl

/-- A write does not look at the CPU. -/
theorem State.busWrite_withCpu (s : State) (c : Cpu) (a : Addr) (v : Byte) :
    ({ s with cpu := c } : State).busWrite a v = { s.busWrite a v with cpu := c } := by
  unfold State.busWrite
  cases regionOf a
  case vram =>
    dsimp only
    by_cases h : s.ppu.vramBlocked = true
    · rw [if_pos h, if_pos h]
    · rw [if_neg h, if_neg h]
      rfl
  case oam =>
    dsimp only
    by_cases h : s.ppu.oamBlocked = true
    · rw [if_pos h, if_pos h]
    · rw [if_neg h, if_neg h]
      rfl
  case cartRam =>
    dsimp only [State.cartRamWrite]
    cases s.cart.target a <;> rfl
  case io => exact s.ioWrite_withCpu c _ v
  all_goals rfl

theorem State.busWrite_setSp (s : State) (x : Addr) (a : Addr) (v : Byte) :
    (s.setSp x).busWrite a v = (s.busWrite a v).setSp x := by
  have h := s.busWrite_withCpu { s.cpu with sp := x } a v
  have hc : (s.busWrite a v).cpu = s.cpu := s.cpu_busWrite a v
  unfold State.setSp
  rw [h, hc]

/-! ## The stack -/

theorem addr_sub_one_one (x : Addr) : x - 1 - 1 = x - 2 := by bv_omega

theorem addr_add_one_one (x : Addr) : x + 1 + 1 = x + 2 := by bv_omega

/-- A push that OAM DMA does not refuse: two bus writes, the high byte at SP - 1 and the low byte at SP - 2. -/
theorem State.push16_ok (s : State) (op : Byte) (v : Addr) (h1 : s.dmaHolds (s.cpu.sp - 1) = false)
    (h2 : s.dmaHolds (s.cpu.sp - 2) = false) :
    s.push16 op v =
      .ok (((s.busWrite (s.cpu.sp - 1) (hiByte v)).busWrite (s.cpu.sp - 2) (loByte v)).setSp (s.cpu.sp - 2)) := by
  have h1' : (s.setSp (s.cpu.sp - 1)).dmaHolds (s.cpu.sp - 1) = false := h1
  unfold State.push16
  simp only [State.cpu_sp_setSp_same, State.memWrite_ok _ _ _ _ h1', State.busWrite_setSp]
  rw [addr_sub_one_one, State.memWrite_ok]
  · rw [State.busWrite_setSp, State.busWrite_setSp]
    rfl
  · by_cases ha : s.cpu.sp - 1 = 0xFF46
    · have hb : s.cpu.sp - 2 = 0xFF45 := by bv_omega
      rw [hb]
      unfold State.dmaHolds
      rw [show decide ((0xFF45 : Addr).toNat < 0xFF00) = false by decide, Bool.and_false]
    · rw [State.dmaHolds_congr (s := s) ?_]
      · exact h2
      · exact s.dma_busWrite _ _ ha

/-- A push whose first write OAM DMA refuses. -/
theorem State.push16_error (s : State) (op : Byte) (v : Addr) (h : s.dmaHolds (s.cpu.sp - 1) = true) :
    s.push16 op v =
      .error
        { record := { kind := .dmaBusConflict, pc := s.info.instPc, addr := s.cpu.sp - 1, opcode := op }, draws := s.draws } := by
  have h' : (s.setSp (s.cpu.sp - 1)).dmaHolds (s.cpu.sp - 1) = true := h
  simp only [State.push16, State.memWrite, State.cpu_sp_setSp_same, h', if_true, State.info_setSp, State.draws_setSp]

/-- A push whose second write OAM DMA refuses. -/
theorem State.push16_error_low (s : State) (op : Byte) (v : Addr) (h1 : s.dmaHolds (s.cpu.sp - 1) = false)
    (h2 : s.dmaHolds (s.cpu.sp - 2) = true) :
    s.push16 op v =
      .error
        { record := { kind := .dmaBusConflict, pc := s.info.instPc, addr := s.cpu.sp - 2, opcode := op }, draws := s.draws } := by
  have ha : s.cpu.sp - 1 ≠ 0xFF46 := by
    intro hc
    have hb : s.cpu.sp - 2 = 0xFF45 := by bv_omega
    rw [hb, State.dmaHolds, show decide ((0xFF45 : Addr).toNat < 0xFF00) = false by decide, Bool.and_false] at h2
    exact Bool.noConfusion h2
  have h1' : (s.setSp (s.cpu.sp - 1)).dmaHolds (s.cpu.sp - 1) = false := h1
  have h2' : ((s.busWrite (s.cpu.sp - 1) (hiByte v)).setSp (s.cpu.sp - 2)).dmaHolds (s.cpu.sp - 2) = true := by
    refine (State.dmaHolds_congr (s := s) ?_ _).trans h2
    exact s.dma_busWrite _ (hiByte v) ha
  unfold State.push16
  simp only [State.cpu_sp_setSp_same, State.memWrite_ok _ _ _ _ h1', State.busWrite_setSp, addr_sub_one_one]
  have hs : ((s.busWrite (s.cpu.sp - 1) (hiByte v)).setSp (s.cpu.sp - 1)).setSp (s.cpu.sp - 2)
      = (s.busWrite (s.cpu.sp - 1) (hiByte v)).setSp (s.cpu.sp - 2) := rfl
  rw [hs, State.memWrite, if_pos h2']
  simp only [State.info_setSp, State.draws_setSp, State.info_busWrite, State.draws_busWrite]

/-- A pop: two reads, the low byte at SP and the high byte at SP + 1. Nothing but SP and the draws changes. -/
theorem State.pop16_spec (s : State) :
    s.pop16 =
      (word16 ((s.memRead s.cpu.sp).2.memRead (s.cpu.sp + 1)).1 (s.memRead s.cpu.sp).1,
        ({ s with draws := ((s.memRead s.cpu.sp).2.memRead (s.cpu.sp + 1)).2.draws } : State).setSp (s.cpu.sp + 2)) := by
  have hc : (s.memRead s.cpu.sp).2.cpu = s.cpu := s.cpu_memRead _
  have e1 : (s.memRead s.cpu.sp).2.setSp (s.cpu.sp + 1)
      = { (s.memRead s.cpu.sp).2 with cpu := { s.cpu with sp := s.cpu.sp + 1 } } := by rw [State.setSp, hc]
  unfold State.pop16
  simp only [hc, State.cpu_sp_setSp_same]
  rw [e1, State.memRead_withCpu]
  refine Prod.ext rfl ?_
  dsimp only
  rw [State.memRead_snd (s.memRead s.cpu.sp).2, State.memRead_snd s]
  simp only [State.setSp, addr_add_one_one]

/-! ## The fetch -/

theorem State.fetch8_spec (s : State) :
    s.fetch8 = ((s.memRead s.cpu.pc).1, ({ s with draws := (s.memRead s.cpu.pc).2.draws } : State).setPc (s.cpu.pc + 1)) := by
  unfold State.fetch8
  dsimp only
  rw [State.cpu_memRead]
  exact Prod.ext rfl (congrArg (State.setPc _) (s.memRead_snd _))

/-! ## The end of an instruction -/

/-- `EiDelayUpdate()` touches only IME and `ei_delay`, and leaves `IME = 1` only with `ei_delay = 0` if it was so. -/
theorem State.eiDelayUpdate_spec (s : State) :
    ∃ i d, s.eiDelayUpdate = { s with cpu := { s.cpu with ime := i, eiDelay := d } }
      ∧ ((s.cpu.ime = true → s.cpu.eiDelay = 0) → i = true → d = 0) := by
  unfold State.eiDelayUpdate
  split
  · rename_i h
    exact ⟨_, _, rfl, fun hi hm => absurd (hi hm) (by rw [h]; decide)⟩
  · split
    · exact ⟨_, _, rfl, fun _ _ => rfl⟩
    · exact ⟨_, _, rfl, fun hi => hi⟩

/-- The state in which a dispatch pushes: the request served, IME and the halt bug are cleared. -/
def State.dispatching (s : State) : State :=
  { s with
    irq := { s.irq with req := s.irq.req &&& ~~~((1 : BitVec 5) <<< lowestBit s.irq.enabledRequests) }
    cpu := { s.cpu with ime := false, haltBug := false }
    info := { s.info with instPc := s.returnAddr } }

/-- A dispatch that OAM DMA does not refuse: the return address pushed from `dispatching`, PC at the vector, 20 T-cycles. -/
theorem State.dispatchInterrupt_ok (s : State) (h1 : s.dmaHolds (s.cpu.sp - 1) = false)
    (h2 : s.dmaHolds (s.cpu.sp - 2) = false) :
    s.dispatchInterrupt =
      .ok
        ((((((s.dispatching.busWrite (s.cpu.sp - 1) (hiByte s.returnAddr)).busWrite (s.cpu.sp - 2)
          (loByte s.returnAddr)).setSp (s.cpu.sp - 2)).setPc (vector (lowestBit s.irq.enabledRequests))).addCycles 20)) := by
  have h : s.dispatching.push16 0x00 s.returnAddr = _ := s.dispatching.push16_ok 0x00 s.returnAddr h1 h2
  show (match s.dispatching.push16 0x00 s.returnAddr with
    | .error e => Except.error e
    | .ok s2 => Except.ok ((s2.setPc (vector (lowestBit s.irq.enabledRequests))).addCycles 20)) = _
  rw [h]
  rfl

/-- A dispatch whose first push OAM DMA refuses. -/
theorem State.dispatchInterrupt_error (s : State) (h : s.dmaHolds (s.cpu.sp - 1) = true) :
    s.dispatchInterrupt =
      .error
        { record := { kind := .dmaBusConflict, pc := s.returnAddr, addr := s.cpu.sp - 1, opcode := 0x00 }, draws := s.draws } := by
  have he : s.dispatching.push16 0x00 s.returnAddr = _ := s.dispatching.push16_error 0x00 s.returnAddr h
  show (match s.dispatching.push16 0x00 s.returnAddr with
    | .error e => Except.error e
    | .ok s2 => Except.ok ((s2.setPc (vector (lowestBit s.irq.enabledRequests))).addCycles 20)) = _
  rw [he]
  rfl

/-- A dispatch whose second push alone OAM DMA refuses. -/
theorem State.dispatchInterrupt_error_low (s : State) (h1 : s.dmaHolds (s.cpu.sp - 1) = false)
    (h2 : s.dmaHolds (s.cpu.sp - 2) = true) :
    s.dispatchInterrupt =
      .error
        { record := { kind := .dmaBusConflict, pc := s.returnAddr, addr := s.cpu.sp - 2, opcode := 0x00 }, draws := s.draws } := by
  have he : s.dispatching.push16 0x00 s.returnAddr = _ := s.dispatching.push16_error_low 0x00 s.returnAddr h1 h2
  show (match s.dispatching.push16 0x00 s.returnAddr with
    | .error e => Except.error e
    | .ok s2 => Except.ok ((s2.setPc (vector (lowestBit s.irq.enabledRequests))).addCycles 20)) = _
  rw [he]
  rfl

/-- A return from an interrupt pops PC, sets IME and clears the delay. -/
theorem State.returnFromInterrupt_spec (s : State) :
    s.returnFromInterrupt =
      { s with
        cpu := { s.cpu with
          pc := word16 ((s.memRead s.cpu.sp).2.memRead (s.cpu.sp + 1)).1 (s.memRead s.cpu.sp).1
          sp := s.cpu.sp + 2
          ime := true
          eiDelay := 0 }
        draws := ((s.memRead s.cpu.sp).2.memRead (s.cpu.sp + 1)).2.draws } := by
  unfold State.returnFromInterrupt
  rw [State.pop16_spec]
  rfl

end Sys2Proof.Machine
end

