-- ==== Sys2Proof/Laws/Operands.lean ====
section
/-! SUPPORT. The storing operand forms: what each answers where OAM DMA leaves the bus free, and where it does not. -/

namespace Sys2Proof.Machine

/-- The record of the fault that a write to `a` raises. -/
def State.conflict (s : State) (op : Byte) (a : Addr) : FaultRecord :=
  { kind := .dmaBusConflict, pc := s.info.instPc, addr := a, opcode := op }

theorem State.memWrite_error (s : State) (op : Byte) (a : Addr) (v : Byte) (h : s.dmaHolds a = true) :
    s.memWrite op a v = .error { record := s.conflict op a, draws := s.draws } := by
  rw [State.memWrite, if_pos h]
  rfl

theorem State.dmaHolds_memRead (s : State) (a b : Addr) : (s.memRead a).2.dmaHolds b = s.dmaHolds b :=
  State.dmaHolds_congr (s.dma_memRead a) b

theorem storeByte_ok (s : State) (op : Byte) (a : Addr) (v : Byte) (n : Nat) (h : s.dmaHolds a = false) :
    storeByte op a v n s = .next ((s.busWrite a v).addCycles n) := by
  rw [storeByte, State.memWrite_ok _ _ _ _ h]
  rfl

theorem storeByte_error (s : State) (op : Byte) (a : Addr) (v : Byte) (n : Nat) (h : s.dmaHolds a = true) :
    storeByte op a v n s = .next { s with fault := some (s.conflict op a) } := by
  rw [storeByte, State.memWrite_error _ _ _ _ h]
  rfl

/-- Read, compute, write back: the write is of the result at HL, in the state after the read. -/
theorem updMem_ok (s : State) (op : Byte) (f : Byte → Flags → AluResult) (n : Nat) (h : s.dmaHolds s.hl = false) :
    updMem op f n s =
      .next
        ((((s.memRead s.hl).2.busWrite s.hl (f (s.memRead s.hl).1 s.flags).value).setFlags
          (f (s.memRead s.hl).1 s.flags).flags).addCycles n) := by
  unfold updMem
  dsimp only
  rw [State.memWrite_ok _ _ _ _ ((s.dmaHolds_memRead _ _).trans h)]
  rfl

theorem updMem_error (s : State) (op : Byte) (f : Byte → Flags → AluResult) (n : Nat) (h : s.dmaHolds s.hl = true) :
    updMem op f n s = .next { s with fault := some (s.conflict op s.hl), draws := (s.memRead s.hl).2.draws } := by
  unfold updMem
  dsimp only
  rw [State.memWrite_error _ _ _ _ ((s.dmaHolds_memRead _ _).trans h), State.conflict, s.info_memRead]
  rfl

theorem mapMem_ok (s : State) (op : Byte) (f : Byte → Byte) (h : s.dmaHolds s.hl = false) :
    mapMem op f s = .next (((s.memRead s.hl).2.busWrite s.hl (f (s.memRead s.hl).1)).addCycles 16) := by
  unfold mapMem
  dsimp only
  rw [State.memWrite_ok _ _ _ _ ((s.dmaHolds_memRead _ _).trans h)]
  rfl

theorem mapMem_error (s : State) (op : Byte) (f : Byte → Byte) (h : s.dmaHolds s.hl = true) :
    mapMem op f s = .next { s with fault := some (s.conflict op s.hl), draws := (s.memRead s.hl).2.draws } := by
  unfold mapMem
  dsimp only
  rw [State.memWrite_error _ _ _ _ ((s.dmaHolds_memRead _ _).trans h), State.conflict, s.info_memRead]
  rfl

end Sys2Proof.Machine
end

