-- ==== Sys2Proof/Tests/Slice0.lean ====
section
/-! SUPPORT. Tests. Each expected value is one that `spec/` gives: the encodings of `30_encoding.md` and the opcode
table, and the vectors of `95_test_vectors.md`, named in the comments (D1, A1, …). The witnesses at the end show, for
each statement of `Obligations.lean` that has hypotheses, a state and operands that meet them. -/

open Sys2Proof Sys2Proof.Machine

namespace Sys2Proof.Tests

/-! ## Well-formedness -/

theorem test_wellFormed_refuses_prefix_alone : ¬(Instr.prefix_cb).WellFormed := by decide
theorem test_wellFormed_accepts_nop : (Instr.nop).WellFormed := by decide

/-! ## Decoding: every row, from its bytes in the tables of `30_encoding.md` R265, R266 and the opcode table -/

theorem test_decode_base_0x :
    (([[0x00], [0x01, 0x34, 0x12], [0x02], [0x03], [0x04], [0x05], [0x06, 0x5A], [0x07], [0x08, 0x34, 0x12], [0x09],
      [0x0A], [0x0B], [0x0C], [0x0D], [0x0E, 0x5A], [0x0F]] : List (List Byte)).map decode) =
    [.nop, .ld_bc_n16 0x1234, .ld_atBC_a, .inc_bc, .inc_b, .dec_b, .ld_b_n8 0x5A, .rlca, .ld_atN16_sp 0x1234,
      .add_hl_bc, .ld_a_atBC, .dec_bc, .inc_c, .dec_c, .ld_c_n8 0x5A, .rrca].map .ok := by rfl
theorem test_decode_base_1x :
    (([[0x10, 0x5A], [0x11, 0x34, 0x12], [0x12], [0x13], [0x14], [0x15], [0x16, 0x5A], [0x17], [0x18, 0x5A], [0x19],
      [0x1A], [0x1B], [0x1C], [0x1D], [0x1E, 0x5A], [0x1F]] : List (List Byte)).map decode) =
    [.stop 0x5A, .ld_de_n16 0x1234, .ld_atDE_a, .inc_de, .inc_d, .dec_d, .ld_d_n8 0x5A, .rla, .jr_e8 0x5A,
      .add_hl_de, .ld_a_atDE, .dec_de, .inc_e, .dec_e, .ld_e_n8 0x5A, .rra].map .ok := by rfl
theorem test_decode_base_2x :
    (([[0x20, 0x5A], [0x21, 0x34, 0x12], [0x22], [0x23], [0x24], [0x25], [0x26, 0x5A], [0x27], [0x28, 0x5A], [0x29],
      [0x2A], [0x2B], [0x2C], [0x2D], [0x2E, 0x5A], [0x2F]] : List (List Byte)).map decode) =
    [.jr_nz_e8 0x5A, .ld_hl_n16 0x1234, .ld_atHLI_a, .inc_hl, .inc_h, .dec_h, .ld_h_n8 0x5A, .daa, .jr_z_e8 0x5A,
      .add_hl_hl, .ld_a_atHLI, .dec_hl, .inc_l, .dec_l, .ld_l_n8 0x5A, .cpl].map .ok := by rfl
theorem test_decode_base_3x :
    (([[0x30, 0x5A], [0x31, 0x34, 0x12], [0x32], [0x33], [0x34], [0x35], [0x36, 0x5A], [0x37], [0x38, 0x5A], [0x39],
      [0x3A], [0x3B], [0x3C], [0x3D], [0x3E, 0x5A], [0x3F]] : List (List Byte)).map decode) =
    [.jr_nc_e8 0x5A, .ld_sp_n16 0x1234, .ld_atHLD_a, .inc_sp, .inc_atHL, .dec_atHL, .ld_atHL_n8 0x5A, .scf,
      .jr_c_e8 0x5A, .add_hl_sp, .ld_a_atHLD, .dec_sp, .inc_a, .dec_a, .ld_a_n8 0x5A, .ccf].map .ok := by rfl
theorem test_decode_base_4x :
    (([[0x40], [0x41], [0x42], [0x43], [0x44], [0x45], [0x46], [0x47], [0x48], [0x49], [0x4A], [0x4B], [0x4C], [0x4D],
      [0x4E], [0x4F]] : List (List Byte)).map decode) =
    [.ld_b_b, .ld_b_c, .ld_b_d, .ld_b_e, .ld_b_h, .ld_b_l, .ld_b_atHL, .ld_b_a, .ld_c_b, .ld_c_c, .ld_c_d, .ld_c_e,
      .ld_c_h, .ld_c_l, .ld_c_atHL, .ld_c_a].map .ok := by rfl
theorem test_decode_base_5x :
    (([[0x50], [0x51], [0x52], [0x53], [0x54], [0x55], [0x56], [0x57], [0x58], [0x59], [0x5A], [0x5B], [0x5C], [0x5D],
      [0x5E], [0x5F]] : List (List Byte)).map decode) =
    [.ld_d_b, .ld_d_c, .ld_d_d, .ld_d_e, .ld_d_h, .ld_d_l, .ld_d_atHL, .ld_d_a, .ld_e_b, .ld_e_c, .ld_e_d, .ld_e_e,
      .ld_e_h, .ld_e_l, .ld_e_atHL, .ld_e_a].map .ok := by rfl
theorem test_decode_base_6x :
    (([[0x60], [0x61], [0x62], [0x63], [0x64], [0x65], [0x66], [0x67], [0x68], [0x69], [0x6A], [0x6B], [0x6C], [0x6D],
      [0x6E], [0x6F]] : List (List Byte)).map decode) =
    [.ld_h_b, .ld_h_c, .ld_h_d, .ld_h_e, .ld_h_h, .ld_h_l, .ld_h_atHL, .ld_h_a, .ld_l_b, .ld_l_c, .ld_l_d, .ld_l_e,
      .ld_l_h, .ld_l_l, .ld_l_atHL, .ld_l_a].map .ok := by rfl
theorem test_decode_base_7x :
    (([[0x70], [0x71], [0x72], [0x73], [0x74], [0x75], [0x76], [0x77], [0x78], [0x79], [0x7A], [0x7B], [0x7C], [0x7D],
      [0x7E], [0x7F]] : List (List Byte)).map decode) =
    [.ld_atHL_b, .ld_atHL_c, .ld_atHL_d, .ld_atHL_e, .ld_atHL_h, .ld_atHL_l, .halt, .ld_atHL_a, .ld_a_b, .ld_a_c,
      .ld_a_d, .ld_a_e, .ld_a_h, .ld_a_l, .ld_a_atHL, .ld_a_a].map .ok := by rfl
theorem test_decode_base_8x :
    (([[0x80], [0x81], [0x82], [0x83], [0x84], [0x85], [0x86], [0x87], [0x88], [0x89], [0x8A], [0x8B], [0x8C], [0x8D],
      [0x8E], [0x8F]] : List (List Byte)).map decode) =
    [.add_a_b, .add_a_c, .add_a_d, .add_a_e, .add_a_h, .add_a_l, .add_a_atHL, .add_a_a, .adc_a_b, .adc_a_c, .adc_a_d,
      .adc_a_e, .adc_a_h, .adc_a_l, .adc_a_atHL, .adc_a_a].map .ok := by rfl
theorem test_decode_base_9x :
    (([[0x90], [0x91], [0x92], [0x93], [0x94], [0x95], [0x96], [0x97], [0x98], [0x99], [0x9A], [0x9B], [0x9C], [0x9D],
      [0x9E], [0x9F]] : List (List Byte)).map decode) =
    [.sub_b, .sub_c, .sub_d, .sub_e, .sub_h, .sub_l, .sub_atHL, .sub_a, .sbc_a_b, .sbc_a_c, .sbc_a_d, .sbc_a_e,
      .sbc_a_h, .sbc_a_l, .sbc_a_atHL, .sbc_a_a].map .ok := by rfl
theorem test_decode_base_ax :
    (([[0xA0], [0xA1], [0xA2], [0xA3], [0xA4], [0xA5], [0xA6], [0xA7], [0xA8], [0xA9], [0xAA], [0xAB], [0xAC], [0xAD],
      [0xAE], [0xAF]] : List (List Byte)).map decode) =
    [.and_b, .and_c, .and_d, .and_e, .and_h, .and_l, .and_atHL, .and_a, .xor_b, .xor_c, .xor_d, .xor_e, .xor_h,
      .xor_l, .xor_atHL, .xor_a].map .ok := by rfl
theorem test_decode_base_bx :
    (([[0xB0], [0xB1], [0xB2], [0xB3], [0xB4], [0xB5], [0xB6], [0xB7], [0xB8], [0xB9], [0xBA], [0xBB], [0xBC], [0xBD],
      [0xBE], [0xBF]] : List (List Byte)).map decode) =
    [.or_b, .or_c, .or_d, .or_e, .or_h, .or_l, .or_atHL, .or_a, .cp_b, .cp_c, .cp_d, .cp_e, .cp_h, .cp_l, .cp_atHL,
      .cp_a].map .ok := by rfl
theorem test_decode_base_cx :
    (([[0xC0], [0xC1], [0xC2, 0x34, 0x12], [0xC3, 0x34, 0x12], [0xC4, 0x34, 0x12], [0xC5], [0xC6, 0x5A], [0xC7],
      [0xC8], [0xC9], [0xCA, 0x34, 0x12], [0xCB], [0xCC, 0x34, 0x12], [0xCD, 0x34, 0x12], [0xCE, 0x5A], [0xCF]] : List (List Byte)).map decode) =
    [.ret_nz, .pop_bc, .jp_nz_n16 0x1234, .jp_n16 0x1234, .call_nz_n16 0x1234, .push_bc, .add_a_n8 0x5A, .rst_00,
      .ret_z, .ret, .jp_z_n16 0x1234, .prefix_cb, .call_z_n16 0x1234, .call_n16 0x1234, .adc_a_n8 0x5A, .rst_08].map .ok := by rfl
theorem test_decode_base_dx :
    (([[0xD0], [0xD1], [0xD2, 0x34, 0x12], [0xD3], [0xD4, 0x34, 0x12], [0xD5], [0xD6, 0x5A], [0xD7], [0xD8], [0xD9],
      [0xDA, 0x34, 0x12], [0xDB], [0xDC, 0x34, 0x12], [0xDD], [0xDE, 0x5A], [0xDF]] : List (List Byte)).map decode) =
    [.ret_nc, .pop_de, .jp_nc_n16 0x1234, .illegal_d3, .call_nc_n16 0x1234, .push_de, .sub_n8 0x5A, .rst_10, .ret_c,
      .reti, .jp_c_n16 0x1234, .illegal_db, .call_c_n16 0x1234, .illegal_dd, .sbc_a_n8 0x5A, .rst_18].map .ok := by rfl
theorem test_decode_base_ex :
    (([[0xE0, 0x5A], [0xE1], [0xE2], [0xE3], [0xE4], [0xE5], [0xE6, 0x5A], [0xE7], [0xE8, 0x5A], [0xE9],
      [0xEA, 0x34, 0x12], [0xEB], [0xEC], [0xED], [0xEE, 0x5A], [0xEF]] : List (List Byte)).map decode) =
    [.ldh_atA8_a 0x5A, .pop_hl, .ld_atC_a, .illegal_e3, .illegal_e4, .push_hl, .and_n8 0x5A, .rst_20,
      .add_sp_e8 0x5A, .jp_hl, .ld_atN16_a 0x1234, .illegal_eb, .illegal_ec, .illegal_ed, .xor_n8 0x5A, .rst_28].map .ok := by rfl
theorem test_decode_base_fx :
    (([[0xF0, 0x5A], [0xF1], [0xF2], [0xF3], [0xF4], [0xF5], [0xF6, 0x5A], [0xF7], [0xF8, 0x5A], [0xF9],
      [0xFA, 0x34, 0x12], [0xFB], [0xFC], [0xFD], [0xFE, 0x5A], [0xFF]] : List (List Byte)).map decode) =
    [.ldh_a_atA8 0x5A, .pop_af, .ld_a_atC, .di, .illegal_f4, .push_af, .or_n8 0x5A, .rst_30, .ld_hl_sp_e8 0x5A,
      .ld_sp_hl, .ld_a_atN16 0x1234, .ei, .illegal_fc, .illegal_fd, .cp_n8 0x5A, .rst_38].map .ok := by rfl
theorem test_decode_cb_0x :
    (([[0xCB, 0x00], [0xCB, 0x01], [0xCB, 0x02], [0xCB, 0x03], [0xCB, 0x04], [0xCB, 0x05], [0xCB, 0x06], [0xCB, 0x07],
      [0xCB, 0x08], [0xCB, 0x09], [0xCB, 0x0A], [0xCB, 0x0B], [0xCB, 0x0C], [0xCB, 0x0D], [0xCB, 0x0E], [0xCB, 0x0F]] : List (List Byte)).map decode) =
    [.rlc_b, .rlc_c, .rlc_d, .rlc_e, .rlc_h, .rlc_l, .rlc_atHL, .rlc_a, .rrc_b, .rrc_c, .rrc_d, .rrc_e, .rrc_h,
      .rrc_l, .rrc_atHL, .rrc_a].map .ok := by rfl
theorem test_decode_cb_1x :
    (([[0xCB, 0x10], [0xCB, 0x11], [0xCB, 0x12], [0xCB, 0x13], [0xCB, 0x14], [0xCB, 0x15], [0xCB, 0x16], [0xCB, 0x17],
      [0xCB, 0x18], [0xCB, 0x19], [0xCB, 0x1A], [0xCB, 0x1B], [0xCB, 0x1C], [0xCB, 0x1D], [0xCB, 0x1E], [0xCB, 0x1F]] : List (List Byte)).map decode) =
    [.rl_b, .rl_c, .rl_d, .rl_e, .rl_h, .rl_l, .rl_atHL, .rl_a, .rr_b, .rr_c, .rr_d, .rr_e, .rr_h, .rr_l, .rr_atHL,
      .rr_a].map .ok := by rfl
theorem test_decode_cb_2x :
    (([[0xCB, 0x20], [0xCB, 0x21], [0xCB, 0x22], [0xCB, 0x23], [0xCB, 0x24], [0xCB, 0x25], [0xCB, 0x26], [0xCB, 0x27],
      [0xCB, 0x28], [0xCB, 0x29], [0xCB, 0x2A], [0xCB, 0x2B], [0xCB, 0x2C], [0xCB, 0x2D], [0xCB, 0x2E], [0xCB, 0x2F]] : List (List Byte)).map decode) =
    [.sla_b, .sla_c, .sla_d, .sla_e, .sla_h, .sla_l, .sla_atHL, .sla_a, .sra_b, .sra_c, .sra_d, .sra_e, .sra_h,
      .sra_l, .sra_atHL, .sra_a].map .ok := by rfl
theorem test_decode_cb_3x :
    (([[0xCB, 0x30], [0xCB, 0x31], [0xCB, 0x32], [0xCB, 0x33], [0xCB, 0x34], [0xCB, 0x35], [0xCB, 0x36], [0xCB, 0x37],
      [0xCB, 0x38], [0xCB, 0x39], [0xCB, 0x3A], [0xCB, 0x3B], [0xCB, 0x3C], [0xCB, 0x3D], [0xCB, 0x3E], [0xCB, 0x3F]] : List (List Byte)).map decode) =
    [.swap_b, .swap_c, .swap_d, .swap_e, .swap_h, .swap_l, .swap_atHL, .swap_a, .srl_b, .srl_c, .srl_d, .srl_e,
      .srl_h, .srl_l, .srl_atHL, .srl_a].map .ok := by rfl
theorem test_decode_cb_4x :
    (([[0xCB, 0x40], [0xCB, 0x41], [0xCB, 0x42], [0xCB, 0x43], [0xCB, 0x44], [0xCB, 0x45], [0xCB, 0x46], [0xCB, 0x47],
      [0xCB, 0x48], [0xCB, 0x49], [0xCB, 0x4A], [0xCB, 0x4B], [0xCB, 0x4C], [0xCB, 0x4D], [0xCB, 0x4E], [0xCB, 0x4F]] : List (List Byte)).map decode) =
    [.bit_0_b, .bit_0_c, .bit_0_d, .bit_0_e, .bit_0_h, .bit_0_l, .bit_0_atHL, .bit_0_a, .bit_1_b, .bit_1_c, .bit_1_d,
      .bit_1_e, .bit_1_h, .bit_1_l, .bit_1_atHL, .bit_1_a].map .ok := by rfl
theorem test_decode_cb_5x :
    (([[0xCB, 0x50], [0xCB, 0x51], [0xCB, 0x52], [0xCB, 0x53], [0xCB, 0x54], [0xCB, 0x55], [0xCB, 0x56], [0xCB, 0x57],
      [0xCB, 0x58], [0xCB, 0x59], [0xCB, 0x5A], [0xCB, 0x5B], [0xCB, 0x5C], [0xCB, 0x5D], [0xCB, 0x5E], [0xCB, 0x5F]] : List (List Byte)).map decode) =
    [.bit_2_b, .bit_2_c, .bit_2_d, .bit_2_e, .bit_2_h, .bit_2_l, .bit_2_atHL, .bit_2_a, .bit_3_b, .bit_3_c, .bit_3_d,
      .bit_3_e, .bit_3_h, .bit_3_l, .bit_3_atHL, .bit_3_a].map .ok := by rfl
theorem test_decode_cb_6x :
    (([[0xCB, 0x60], [0xCB, 0x61], [0xCB, 0x62], [0xCB, 0x63], [0xCB, 0x64], [0xCB, 0x65], [0xCB, 0x66], [0xCB, 0x67],
      [0xCB, 0x68], [0xCB, 0x69], [0xCB, 0x6A], [0xCB, 0x6B], [0xCB, 0x6C], [0xCB, 0x6D], [0xCB, 0x6E], [0xCB, 0x6F]] : List (List Byte)).map decode) =
    [.bit_4_b, .bit_4_c, .bit_4_d, .bit_4_e, .bit_4_h, .bit_4_l, .bit_4_atHL, .bit_4_a, .bit_5_b, .bit_5_c, .bit_5_d,
      .bit_5_e, .bit_5_h, .bit_5_l, .bit_5_atHL, .bit_5_a].map .ok := by rfl
theorem test_decode_cb_7x :
    (([[0xCB, 0x70], [0xCB, 0x71], [0xCB, 0x72], [0xCB, 0x73], [0xCB, 0x74], [0xCB, 0x75], [0xCB, 0x76], [0xCB, 0x77],
      [0xCB, 0x78], [0xCB, 0x79], [0xCB, 0x7A], [0xCB, 0x7B], [0xCB, 0x7C], [0xCB, 0x7D], [0xCB, 0x7E], [0xCB, 0x7F]] : List (List Byte)).map decode) =
    [.bit_6_b, .bit_6_c, .bit_6_d, .bit_6_e, .bit_6_h, .bit_6_l, .bit_6_atHL, .bit_6_a, .bit_7_b, .bit_7_c, .bit_7_d,
      .bit_7_e, .bit_7_h, .bit_7_l, .bit_7_atHL, .bit_7_a].map .ok := by rfl
theorem test_decode_cb_8x :
    (([[0xCB, 0x80], [0xCB, 0x81], [0xCB, 0x82], [0xCB, 0x83], [0xCB, 0x84], [0xCB, 0x85], [0xCB, 0x86], [0xCB, 0x87],
      [0xCB, 0x88], [0xCB, 0x89], [0xCB, 0x8A], [0xCB, 0x8B], [0xCB, 0x8C], [0xCB, 0x8D], [0xCB, 0x8E], [0xCB, 0x8F]] : List (List Byte)).map decode) =
    [.res_0_b, .res_0_c, .res_0_d, .res_0_e, .res_0_h, .res_0_l, .res_0_atHL, .res_0_a, .res_1_b, .res_1_c, .res_1_d,
      .res_1_e, .res_1_h, .res_1_l, .res_1_atHL, .res_1_a].map .ok := by rfl
theorem test_decode_cb_9x :
    (([[0xCB, 0x90], [0xCB, 0x91], [0xCB, 0x92], [0xCB, 0x93], [0xCB, 0x94], [0xCB, 0x95], [0xCB, 0x96], [0xCB, 0x97],
      [0xCB, 0x98], [0xCB, 0x99], [0xCB, 0x9A], [0xCB, 0x9B], [0xCB, 0x9C], [0xCB, 0x9D], [0xCB, 0x9E], [0xCB, 0x9F]] : List (List Byte)).map decode) =
    [.res_2_b, .res_2_c, .res_2_d, .res_2_e, .res_2_h, .res_2_l, .res_2_atHL, .res_2_a, .res_3_b, .res_3_c, .res_3_d,
      .res_3_e, .res_3_h, .res_3_l, .res_3_atHL, .res_3_a].map .ok := by rfl
theorem test_decode_cb_ax :
    (([[0xCB, 0xA0], [0xCB, 0xA1], [0xCB, 0xA2], [0xCB, 0xA3], [0xCB, 0xA4], [0xCB, 0xA5], [0xCB, 0xA6], [0xCB, 0xA7],
      [0xCB, 0xA8], [0xCB, 0xA9], [0xCB, 0xAA], [0xCB, 0xAB], [0xCB, 0xAC], [0xCB, 0xAD], [0xCB, 0xAE], [0xCB, 0xAF]] : List (List Byte)).map decode) =
    [.res_4_b, .res_4_c, .res_4_d, .res_4_e, .res_4_h, .res_4_l, .res_4_atHL, .res_4_a, .res_5_b, .res_5_c, .res_5_d,
      .res_5_e, .res_5_h, .res_5_l, .res_5_atHL, .res_5_a].map .ok := by rfl
theorem test_decode_cb_bx :
    (([[0xCB, 0xB0], [0xCB, 0xB1], [0xCB, 0xB2], [0xCB, 0xB3], [0xCB, 0xB4], [0xCB, 0xB5], [0xCB, 0xB6], [0xCB, 0xB7],
      [0xCB, 0xB8], [0xCB, 0xB9], [0xCB, 0xBA], [0xCB, 0xBB], [0xCB, 0xBC], [0xCB, 0xBD], [0xCB, 0xBE], [0xCB, 0xBF]] : List (List Byte)).map decode) =
    [.res_6_b, .res_6_c, .res_6_d, .res_6_e, .res_6_h, .res_6_l, .res_6_atHL, .res_6_a, .res_7_b, .res_7_c, .res_7_d,
      .res_7_e, .res_7_h, .res_7_l, .res_7_atHL, .res_7_a].map .ok := by rfl
theorem test_decode_cb_cx :
    (([[0xCB, 0xC0], [0xCB, 0xC1], [0xCB, 0xC2], [0xCB, 0xC3], [0xCB, 0xC4], [0xCB, 0xC5], [0xCB, 0xC6], [0xCB, 0xC7],
      [0xCB, 0xC8], [0xCB, 0xC9], [0xCB, 0xCA], [0xCB, 0xCB], [0xCB, 0xCC], [0xCB, 0xCD], [0xCB, 0xCE], [0xCB, 0xCF]] : List (List Byte)).map decode) =
    [.set_0_b, .set_0_c, .set_0_d, .set_0_e, .set_0_h, .set_0_l, .set_0_atHL, .set_0_a, .set_1_b, .set_1_c, .set_1_d,
      .set_1_e, .set_1_h, .set_1_l, .set_1_atHL, .set_1_a].map .ok := by rfl
theorem test_decode_cb_dx :
    (([[0xCB, 0xD0], [0xCB, 0xD1], [0xCB, 0xD2], [0xCB, 0xD3], [0xCB, 0xD4], [0xCB, 0xD5], [0xCB, 0xD6], [0xCB, 0xD7],
      [0xCB, 0xD8], [0xCB, 0xD9], [0xCB, 0xDA], [0xCB, 0xDB], [0xCB, 0xDC], [0xCB, 0xDD], [0xCB, 0xDE], [0xCB, 0xDF]] : List (List Byte)).map decode) =
    [.set_2_b, .set_2_c, .set_2_d, .set_2_e, .set_2_h, .set_2_l, .set_2_atHL, .set_2_a, .set_3_b, .set_3_c, .set_3_d,
      .set_3_e, .set_3_h, .set_3_l, .set_3_atHL, .set_3_a].map .ok := by rfl
theorem test_decode_cb_ex :
    (([[0xCB, 0xE0], [0xCB, 0xE1], [0xCB, 0xE2], [0xCB, 0xE3], [0xCB, 0xE4], [0xCB, 0xE5], [0xCB, 0xE6], [0xCB, 0xE7],
      [0xCB, 0xE8], [0xCB, 0xE9], [0xCB, 0xEA], [0xCB, 0xEB], [0xCB, 0xEC], [0xCB, 0xED], [0xCB, 0xEE], [0xCB, 0xEF]] : List (List Byte)).map decode) =
    [.set_4_b, .set_4_c, .set_4_d, .set_4_e, .set_4_h, .set_4_l, .set_4_atHL, .set_4_a, .set_5_b, .set_5_c, .set_5_d,
      .set_5_e, .set_5_h, .set_5_l, .set_5_atHL, .set_5_a].map .ok := by rfl
theorem test_decode_cb_fx :
    (([[0xCB, 0xF0], [0xCB, 0xF1], [0xCB, 0xF2], [0xCB, 0xF3], [0xCB, 0xF4], [0xCB, 0xF5], [0xCB, 0xF6], [0xCB, 0xF7],
      [0xCB, 0xF8], [0xCB, 0xF9], [0xCB, 0xFA], [0xCB, 0xFB], [0xCB, 0xFC], [0xCB, 0xFD], [0xCB, 0xFE], [0xCB, 0xFF]] : List (List Byte)).map decode) =
    [.set_6_b, .set_6_c, .set_6_d, .set_6_e, .set_6_h, .set_6_l, .set_6_atHL, .set_6_a, .set_7_b, .set_7_c, .set_7_d,
      .set_7_e, .set_7_h, .set_7_l, .set_7_atHL, .set_7_a].map .ok := by rfl

/-- The empty list and the lists that end inside an instruction are rejected by name. -/
theorem test_decode_rejects_short :
    [decode [], decode [0x01, 0x34], decode [0x06], decode [0xCD, 0x00]] =
      [.error .noBytes, .error (.truncated 0x01), .error (.truncated 0x06), .error (.truncated 0xCD)] := by rfl

/-- Words bit by bit from the encodings of each family's rules: `LD r,r'` 01yyyzzz, `ADD A,r` 10000zzz, `INC rr` 00pp0011,
`RST` 11yyy111, `BIT b,r` 01bbbzzz after 0xCB, `PUSH rr` 11pp0101, `JP cc,n16` 110cc010. -/
theorem test_decode_bitwise :
    [[0b01_111_001], [0b10_000_011], [0b00_10_0011], [0b11_101_111], [0b1100_1011, 0b01_110_101], [0b11_01_0101],
      [0b110_10_010, 0xCD, 0xAB]].map decode =
    [.ld_a_c, .add_a_e, .inc_hl, .rst_28, .bit_6_l, .push_de, .jp_nc_n16 0xABCD].map .ok := by rfl

/-- The table's words, numbered as the table numbers them: 0xCB-page rows hold the prefix in bits 15..8. -/
theorem test_decodeTableWord :
    [decodeTableWord 8 0x41, decodeTableWord 16 0xCB7C, decodeTableWord 8 0xCB, decodeTableWord 8 0xDB,
      decodeTableWord 8 0xC3] =
    [some .ld_b_c, some .bit_7_h, some .prefix_cb, some .illegal_db, some (.jp_n16 0)] := by rfl

/-! ## One instruction -/

/-- The state of the single-instruction vectors: the reset state with a ROM-only cartridge and the LCD off. -/
def lab : State := { State.reset with cart := Cart.romOnly, ppu := { Ppu.reset with lcdc := 0x11, mode := .hBlank } }

/-- `lab` with registers and F set. -/
def regs (l : List (Reg8 × Byte)) (f : Byte) : State :=
  l.foldl (fun s p => s.setReg p.1 p.2) (lab.setFlags (Flags.ofByte f))

/-- The same with HL = C100 and the byte there set: "(HL)=x" of the vectors. -/
def atHL (x : Byte) (l : List (Reg8 × Byte)) (f : Byte) : State := ((regs l f).setPair .hl 0xC100).setByte 0xC100 x

/-- What `f` reads of the next state of an instruction. -/
def after {α : Type} (i : Instr) (s : State) (f : State → α) : Option α :=
  match exec i s with
  | .next t => some (f t)
  | _ => none

/-- What `f` reads of the next state of a step. -/
def stepped {α : Type} (s : State) (f : State → α) : Option α :=
  match step s with
  | .next t => some (f t)
  | _ => none

/-! ### 8-bit arithmetic: vectors A1 to A32 -/

theorem test_add_a_b :
    after .add_a_b (regs [(.a, 0x3A), (.b, 0xC6)] 0x00) (fun t => (t.cpu.a, t.flags.toByte, t.info.cycles)) = some (0x00, 0xB0, 4) := by decide
theorem test_add_a_atHL :
    after .add_a_atHL (atHL 0x12 [(.a, 0x3C)] 0x00) (fun t => (t.cpu.a, t.flags.toByte, t.info.cycles)) = some (0x4E, 0x00, 8) := by decide
theorem test_add_a_n8 :
    after (.add_a_n8 0xFF) (regs [(.a, 0x3C)] 0x00) (fun t => (t.cpu.a, t.flags.toByte, t.info.cycles)) = some (0x3B, 0x30, 8) := by decide
theorem test_adc_a_e :
    after .adc_a_e (regs [(.a, 0xE1), (.e, 0x0F)] 0x10) (fun t => (t.cpu.a, t.flags.toByte, t.info.cycles)) = some (0xF1, 0x20, 4) := by decide
theorem test_adc_a_atHL :
    after .adc_a_atHL (atHL 0x1E [(.a, 0xE1)] 0x10) (fun t => (t.cpu.a, t.flags.toByte, t.info.cycles)) = some (0x00, 0xB0, 8) := by decide
theorem test_adc_a_n8 :
    after (.adc_a_n8 0x3B) (regs [(.a, 0xE1)] 0x10) (fun t => (t.cpu.a, t.flags.toByte, t.info.cycles)) = some (0x1D, 0x10, 8) := by decide
theorem test_sub_e :
    after .sub_e (regs [(.a, 0x3E), (.e, 0x3E)] 0x00) (fun t => (t.cpu.a, t.flags.toByte, t.info.cycles)) = some (0x00, 0xC0, 4) := by decide
theorem test_sub_atHL :
    after .sub_atHL (atHL 0x40 [(.a, 0x3E)] 0x00) (fun t => (t.cpu.a, t.flags.toByte, t.info.cycles)) = some (0xFE, 0x50, 8) := by decide
theorem test_sub_n8 :
    after (.sub_n8 0x0F) (regs [(.a, 0x3E)] 0x00) (fun t => (t.cpu.a, t.flags.toByte, t.info.cycles)) = some (0x2F, 0x60, 8) := by decide
theorem test_sbc_a_h :
    after .sbc_a_h (regs [(.a, 0x3B), (.h, 0x2A)] 0x10) (fun t => (t.cpu.a, t.flags.toByte, t.info.cycles)) = some (0x10, 0x40, 4) := by decide
theorem test_sbc_a_atHL :
    after .sbc_a_atHL (atHL 0x4F [(.a, 0x3B)] 0x10) (fun t => (t.cpu.a, t.flags.toByte, t.info.cycles)) = some (0xEB, 0x70, 8) := by decide
theorem test_sbc_a_n8 :
    after (.sbc_a_n8 0x3A) (regs [(.a, 0x3B)] 0x10) (fun t => (t.cpu.a, t.flags.toByte, t.info.cycles)) = some (0x00, 0xC0, 8) := by decide
theorem test_and_l :
    after .and_l (regs [(.a, 0x5A), (.l, 0x3F)] 0x00) (fun t => (t.cpu.a, t.flags.toByte, t.info.cycles)) = some (0x1A, 0x20, 4) := by decide
theorem test_and_n8 :
    after (.and_n8 0x38) (regs [(.a, 0x5A)] 0x00) (fun t => (t.cpu.a, t.flags.toByte, t.info.cycles)) = some (0x18, 0x20, 8) := by decide
theorem test_xor_a :
    after .xor_a (regs [(.a, 0xFF)] 0x00) (fun t => (t.cpu.a, t.flags.toByte, t.info.cycles)) = some (0x00, 0x80, 4) := by decide
theorem test_xor_atHL :
    after .xor_atHL (atHL 0x8A [(.a, 0xFF)] 0x00) (fun t => (t.cpu.a, t.flags.toByte, t.info.cycles)) = some (0x75, 0x00, 8) := by decide
theorem test_or_n8 :
    after (.or_n8 0x03) (regs [(.a, 0x5A)] 0x00) (fun t => (t.cpu.a, t.flags.toByte, t.info.cycles)) = some (0x5B, 0x00, 8) := by decide
theorem test_cp_b :
    after .cp_b (regs [(.a, 0x3C), (.b, 0x2F)] 0x00) (fun t => (t.cpu.a, t.flags.toByte, t.info.cycles)) = some (0x3C, 0x60, 4) := by decide
theorem test_cp_atHL :
    after .cp_atHL (atHL 0x40 [(.a, 0x3C)] 0x00) (fun t => (t.cpu.a, t.flags.toByte, t.info.cycles)) = some (0x3C, 0x50, 8) := by decide
theorem test_cp_n8 :
    after (.cp_n8 0x3C) (regs [(.a, 0x3C)] 0x00) (fun t => (t.cpu.a, t.flags.toByte, t.info.cycles)) = some (0x3C, 0xC0, 8) := by decide
theorem test_inc_a :
    after .inc_a (regs [(.a, 0xFF)] 0x00) (fun t => (t.cpu.a, t.flags.toByte, t.info.cycles)) = some (0x00, 0xA0, 4) := by decide
theorem test_inc_b :
    after .inc_b (regs [(.b, 0xFF)] 0x10) (fun t => (t.cpu.b, t.flags.toByte, t.info.cycles)) = some (0x00, 0xB0, 4) := by decide
theorem test_inc_atHL :
    after .inc_atHL (atHL 0x50 [] 0x00) (fun t => (t.byteAt 0xC100, t.flags.toByte, t.info.cycles)) = some (0x51, 0x00, 12) := by decide
theorem test_dec_l :
    after .dec_l (regs [(.l, 0x01)] 0x00) (fun t => (t.cpu.l, t.flags.toByte, t.info.cycles)) = some (0x00, 0xC0, 4) := by decide
theorem test_dec_atHL :
    after .dec_atHL (atHL 0x00 [] 0x00) (fun t => (t.byteAt 0xC100, t.flags.toByte, t.info.cycles)) = some (0xFF, 0x60, 12) := by decide
theorem test_daa_add :
    after .daa (regs [(.a, 0x7D)] 0x00) (fun t => (t.cpu.a, t.flags.toByte, t.info.cycles)) = some (0x83, 0x00, 4) := by decide
theorem test_daa_carry :
    after .daa (regs [(.a, 0x9A)] 0x00) (fun t => (t.cpu.a, t.flags.toByte, t.info.cycles)) = some (0x00, 0x90, 4) := by decide
theorem test_daa_subtract :
    [(0x4B, 0x60), (0x00, 0x50)].map (fun (p : Byte × Byte) => after .daa (regs [(.a, p.1)] p.2) (fun t => (t.cpu.a, t.flags.toByte))) = [some (0x45, 0x40), some (0xA0, 0x50)] := by decide
theorem test_cpl :
    after .cpl (regs [(.a, 0x35)] 0x00) (fun t => (t.cpu.a, t.flags.toByte, t.info.cycles)) = some (0xCA, 0x60, 4) := by decide
theorem test_scf :
    after .scf (regs [(.a, 0x35)] 0x80) (fun t => (t.cpu.a, t.flags.toByte, t.info.cycles)) = some (0x35, 0x90, 4) := by decide
theorem test_ccf :
    after .ccf (regs [(.a, 0x35)] 0xB0) (fun t => (t.cpu.a, t.flags.toByte, t.info.cycles)) = some (0x35, 0x80, 4) := by decide

/-! ### 16-bit arithmetic: vectors W1 to W9 -/

theorem test_add_hl_bc :
    after .add_hl_bc (((lab.setPair .hl 0x8A23).setPair .bc 0x0605).setFlags (Flags.ofByte 0x00)) (fun t => (t.hl, t.flags.toByte, t.info.cycles)) = some (0x9028, 0x20, 8) := by decide
theorem test_add_hl_hl :
    after .add_hl_hl ((lab.setPair .hl 0x8A23).setFlags (Flags.ofByte 0x80)) (fun t => (t.hl, t.flags.toByte, t.info.cycles)) = some (0x1446, 0xB0, 8) := by decide
theorem test_inc_sp :
    after .inc_sp (lab.setSp 0xFFFF) (fun t => (t.cpu.sp, t.flags.toByte, t.info.cycles)) = some (0x0000, 0xB0, 8) := by decide
theorem test_dec_bc :
    after .dec_bc (lab.setPair .bc 0x0000) (fun t => (t.pair .bc, t.flags.toByte, t.info.cycles)) = some (0xFFFF, 0xB0, 8) := by decide
theorem test_add_sp_e8_low_byte_flags :
    after (.add_sp_e8 0xFF) (lab.setSp 0x0001) (fun t => (t.cpu.sp, t.flags.toByte, t.info.cycles)) = some (0x0000, 0x30, 16) := by decide
theorem test_add_sp_e8_no_carry :
    after (.add_sp_e8 0xFF) (lab.setSp 0x0000) (fun t => (t.cpu.sp, t.flags.toByte)) = some (0xFFFF, 0x00) := by decide
theorem test_ld_hl_sp_e8 :
    after (.ld_hl_sp_e8 0x02) (lab.setSp 0xFFF8) (fun t => (t.hl, t.cpu.sp, t.flags.toByte, t.info.cycles)) = some (0xFFFA, 0xFFF8, 0x00, 12) := by decide
theorem test_ld_hl_sp_e8_carry :
    after (.ld_hl_sp_e8 0x01) (lab.setSp 0x00FF) (fun t => (t.hl, t.flags.toByte)) = some (0x0100, 0x30) := by decide

/-! ### Rotates, shifts, bits: vectors B1 to B22 -/

theorem test_rlca :
    after .rlca (regs [(.a, 0x85)] 0x80) (fun t => (t.cpu.a, t.flags.toByte, t.info.cycles)) = some (0x0B, 0x10, 4) := by decide
theorem test_rrca :
    after .rrca (regs [(.a, 0x3B)] 0x00) (fun t => (t.cpu.a, t.flags.toByte, t.info.cycles)) = some (0x9D, 0x10, 4) := by decide
theorem test_rla :
    after .rla (regs [(.a, 0x95)] 0x10) (fun t => (t.cpu.a, t.flags.toByte, t.info.cycles)) = some (0x2B, 0x10, 4) := by decide
theorem test_rla_zero :
    after .rla (regs [(.a, 0x80)] 0x00) (fun t => (t.cpu.a, t.flags.toByte, t.info.cycles)) = some (0x00, 0x10, 4) := by decide
theorem test_rra :
    after .rra (regs [(.a, 0x81)] 0x00) (fun t => (t.cpu.a, t.flags.toByte, t.info.cycles)) = some (0x40, 0x10, 4) := by decide
theorem test_rl_a :
    after .rl_a (regs [(.a, 0x80)] 0x00) (fun t => (t.cpu.a, t.flags.toByte, t.info.cycles)) = some (0x00, 0x90, 8) := by decide
theorem test_rr_a :
    after .rr_a (regs [(.a, 0x01)] 0x00) (fun t => (t.cpu.a, t.flags.toByte, t.info.cycles)) = some (0x00, 0x90, 8) := by decide
theorem test_sra_a :
    after .sra_a (regs [(.a, 0x8A)] 0x00) (fun t => (t.cpu.a, t.flags.toByte, t.info.cycles)) = some (0xC5, 0x00, 8) := by decide
theorem test_srl_a :
    after .srl_a (regs [(.a, 0x01)] 0x00) (fun t => (t.cpu.a, t.flags.toByte, t.info.cycles)) = some (0x00, 0x90, 8) := by decide
theorem test_set_3_a :
    after .set_3_a (regs [(.a, 0x80)] 0x00) (fun t => (t.cpu.a, t.flags.toByte, t.info.cycles)) = some (0x88, 0x00, 8) := by decide
theorem test_rlc_b :
    after .rlc_b (regs [(.b, 0x85)] 0x00) (fun t => (t.cpu.b, t.flags.toByte, t.info.cycles)) = some (0x0B, 0x10, 8) := by decide
theorem test_rrc_c :
    after .rrc_c (regs [(.c, 0x01)] 0x00) (fun t => (t.cpu.c, t.flags.toByte, t.info.cycles)) = some (0x80, 0x10, 8) := by decide
theorem test_rl_l :
    after .rl_l (regs [(.l, 0x80)] 0x00) (fun t => (t.cpu.l, t.flags.toByte, t.info.cycles)) = some (0x00, 0x90, 8) := by decide
theorem test_sla_d :
    after .sla_d (regs [(.d, 0x80)] 0x00) (fun t => (t.cpu.d, t.flags.toByte, t.info.cycles)) = some (0x00, 0x90, 8) := by decide
theorem test_bit_7_h :
    after .bit_7_h (regs [(.h, 0x80)] 0x00) (fun t => (t.cpu.h, t.flags.toByte, t.info.cycles)) = some (0x80, 0x20, 8) := by decide
theorem test_rl_atHL :
    after .rl_atHL (atHL 0x11 [] 0x00) (fun t => (t.byteAt 0xC100, t.flags.toByte, t.info.cycles)) = some (0x22, 0x00, 16) := by decide
theorem test_rr_atHL :
    after .rr_atHL (atHL 0x8A [] 0x00) (fun t => (t.byteAt 0xC100, t.flags.toByte, t.info.cycles)) = some (0x45, 0x00, 16) := by decide
theorem test_sra_atHL :
    after .sra_atHL (atHL 0x01 [] 0x00) (fun t => (t.byteAt 0xC100, t.flags.toByte, t.info.cycles)) = some (0x00, 0x90, 16) := by decide
theorem test_swap_atHL :
    after .swap_atHL (atHL 0xF0 [] 0x00) (fun t => (t.byteAt 0xC100, t.flags.toByte, t.info.cycles)) = some (0x0F, 0x00, 16) := by decide
theorem test_srl_atHL :
    after .srl_atHL (atHL 0xFF [] 0x00) (fun t => (t.byteAt 0xC100, t.flags.toByte, t.info.cycles)) = some (0x7F, 0x10, 16) := by decide
theorem test_bit_0_atHL :
    after .bit_0_atHL (atHL 0xFE [] 0x10) (fun t => (t.byteAt 0xC100, t.flags.toByte, t.info.cycles)) = some (0xFE, 0xB0, 12) := by decide
theorem test_res_3_atHL :
    after .res_3_atHL (atHL 0xFF [] 0x50) (fun t => (t.byteAt 0xC100, t.flags.toByte, t.info.cycles)) = some (0xF7, 0x50, 16) := by decide
/-- R501 with vector B7: the prefix fetches the second byte itself. -/
theorem test_prefix_cb :
    after .prefix_cb (((regs [(.b, 0x85)] 0x00).setPc 0xC201).setByte 0xC201 0x00) (fun t => (t.cpu.b, t.flags.toByte, t.cpu.pc)) = some (0x0B, 0x10, 0xC202) := by decide

/-! ### Loads and stack: vectors D1 to D13 -/

theorem test_ld_atN16_sp :
    after (.ld_atN16_sp 0xC100) (lab.setSp 0xFFF8) (fun t => (t.byteAt 0xC100, t.byteAt 0xC101, t.info.cycles)) = some (0xF8, 0xFF, 20) := by decide
theorem test_push_bc :
    after .push_bc (lab.setPair .bc 0x1234) (fun t => (t.byteAt 0xFFFD, t.byteAt 0xFFFC, t.cpu.sp, t.flags.toByte, t.info.cycles)) = some (0x12, 0x34, 0xFFFC, 0xB0, 16) := by decide
theorem test_pop_af :
    after .pop_af (((lab.setSp 0xFFFC).setByte 0xFFFC 0xFF).setByte 0xFFFD 0x12) (fun t => (t.cpu.a, t.flags.toByte, t.cpu.sp, t.info.cycles)) = some (0x12, 0xF0, 0xFFFE, 12) := by decide
theorem test_ld_atHLD_a :
    after .ld_atHLD_a ((regs [(.a, 0x00)] 0x10).setPair .hl 0xDFFF) (fun t => (t.byteAt 0xDFFF, t.hl, t.flags.toByte, t.info.cycles)) = some (0x00, 0xDFFE, 0x10, 8) := by decide
theorem test_ld_a_atHLI :
    after .ld_a_atHLI ((lab.setPair .hl 0x0150).setByte (romBase + 0x150) 0xDE) (fun t => (t.cpu.a, t.hl, t.info.cycles)) = some (0xDE, 0x0151, 8) := by decide
theorem test_ld_atHLI_a_wraps :
    after .ld_atHLI_a ((regs [(.a, 0x1F)] 0x00).setPair .hl 0xFFFF) (fun t => (t.irq.ie, t.hl, t.info.cycles)) = some (0x1F, 0x0000, 8) := by decide
theorem test_ldh_atA8_a :
    after (.ldh_atA8_a 0xFF) (regs [(.a, 0x04)] 0x00) (fun t => (t.irq.ie, t.info.cycles)) = some (0x04, 12) := by decide
theorem test_ld_a_atC :
    after .ld_a_atC (({ regs [(.c, 0x44)] 0x00 with ppu := { Ppu.reset with ly := 0x90, mode := .vBlank } } : State)) (fun t => (t.cpu.a, t.info.cycles)) = some (0x90, 8) := by decide
theorem test_ld_bc_n16 :
    after (.ld_bc_n16 0x1234) lab (fun t => (t.cpu.b, t.cpu.c, t.info.cycles)) = some (0x12, 0x34, 12) := by decide
theorem test_ld_atHL_n8 :
    after (.ld_atHL_n8 0x5A) (atHL 0x00 [] 0x00) (fun t => (t.byteAt 0xC100, t.info.cycles)) = some (0x5A, 12) := by decide
theorem test_ld_sp_hl :
    after .ld_sp_hl (lab.setPair .hl 0xABCD) (fun t => (t.cpu.sp, t.info.cycles)) = some (0xABCD, 8) := by decide
theorem test_ld_atN16_a_rom :
    after (.ld_atN16_a 0x0000) (regs [(.a, 0x77)] 0x00) (fun t => (t.mem, t.cart, t.info.cycles)) = some ([], Cart.romOnly, 16) := by decide

/-! ### Control transfer: vectors C1 to C13, PC past the instruction -/

theorem test_jr_nz_taken :
    after (.jr_nz_e8 0xFB) ((regs [] 0x00).setPc 0xC202) (fun t => (t.cpu.pc, t.info.cycles)) = some (0xC1FD, 12) := by decide
theorem test_jr_nz_not_taken :
    after (.jr_nz_e8 0xFB) ((regs [] 0x80).setPc 0xC202) (fun t => (t.cpu.pc, t.info.cycles)) = some (0xC202, 8) := by decide
theorem test_jr_e8 :
    after (.jr_e8 0xFE) (lab.setPc 0xC202) (fun t => (t.cpu.pc, t.info.cycles)) = some (0xC200, 12) := by decide
theorem test_call_n16 :
    after (.call_n16 0x0200) (lab.setPc 0xC203) (fun t => (t.cpu.pc, t.cpu.sp, t.byteAt 0xFFFD, t.byteAt 0xFFFC, t.info.cycles)) = some (0x0200, 0xFFFC, 0xC2, 0x03, 24) := by decide
theorem test_call_c_not_taken :
    after (.call_c_n16 0x0200) ((regs [] 0x00).setPc 0xC203) (fun t => (t.cpu.pc, t.cpu.sp, t.info.cycles)) = some (0xC203, 0xFFFE, 12) := by decide
theorem test_rst_28 :
    after .rst_28 ((lab.setPc 0xC201).setSp 0xD000) (fun t => (t.cpu.pc, t.cpu.sp, t.byteAt 0xCFFF, t.byteAt 0xCFFE, t.info.cycles)) = some (0x0028, 0xCFFE, 0xC2, 0x01, 16) := by decide
theorem test_ret_nz_not_taken :
    after .ret_nz ((regs [] 0x80).setPc 0xC201) (fun t => (t.cpu.pc, t.info.cycles)) = some (0xC201, 8) := by decide
theorem test_ret_nz_taken :
    after .ret_nz (((((regs [] 0x00).setPc 0xC201).setSp 0xFFFC).setByte 0xFFFC 0x53).setByte 0xFFFD 0x01) (fun t => (t.cpu.pc, t.cpu.sp, t.info.cycles)) = some (0x0153, 0xFFFE, 20) := by decide
theorem test_reti :
    after .reti (((((regs [] 0x00).setPc 0xC201).setSp 0xFFFC).setByte 0xFFFC 0x53).setByte 0xFFFD 0x01) (fun t => (t.cpu.pc, t.cpu.sp, t.cpu.ime, t.info.cycles)) = some (0x0153, 0xFFFE, true, 16) := by decide
theorem test_jp_hl :
    after .jp_hl (lab.setPair .hl 0x4000) (fun t => (t.cpu.pc, t.info.cycles)) = some (0x4000, 4) := by decide
theorem test_jp_nc_not_taken :
    after (.jp_nc_n16 0x1234) ((regs [] 0x10).setPc 0xC203) (fun t => (t.cpu.pc, t.info.cycles)) = some (0xC203, 12) := by decide
theorem test_jp_c_taken :
    after (.jp_c_n16 0x1234) ((regs [] 0x10).setPc 0xC203) (fun t => (t.cpu.pc, t.info.cycles)) = some (0x1234, 16) := by decide

/-! ## One step, from where it fetches -/

/-- `lab` with the bytes of an instruction at C200 and PC there. -/
def atC200 (s : State) (b0 b1 b2 : Byte) : State :=
  (((s.setPc 0xC200).setByte 0xC200 b0).setByte 0xC201 b1).setByte 0xC202 b2

/-- Vector Y1: `EI` leaves IME 0 and `ei_delay` 1 after its own step. -/
theorem test_step_ei :
    stepped (atC200 lab 0xFB 0x00 0x00) (fun t => (t.cpu.ime, t.cpu.eiDelay, t.cpu.pc)) = some (false, 1, 0xC201) := by
  decide +kernel

/-- Vectors Y3 and Y4: `DI` clears IME at once and cancels a pending enable. -/
theorem test_step_di :
    stepped (atC200 { lab with cpu := { lab.cpu with eiDelay := 1 } } 0xF3 0x00 0x00)
      (fun t => (t.cpu.ime, t.cpu.eiDelay)) = some (false, 0) := by decide +kernel

/-- `lab` with requests and enables. -/
def irqs (s : State) (ie : Byte) (req : BitVec 5) (ime : Bool) : State :=
  { s with irq := { ie := ie, req := req }, cpu := { s.cpu with ime := ime } }

/-- Vector Y5: `HALT` with nothing pending halts with PC past it. -/
theorem test_step_halt :
    stepped (atC200 (irqs lab 0x04 0b00000 false) 0x76 0x00 0x00)
      (fun t => (t.cpu.mode, t.cpu.haltBug, t.cpu.pc)) = some (.halted, false, 0xC201) := by decide +kernel

/-- Vector Y6: with IME 0 and a request pending `HALT` does not halt and arms the halt bug. -/
theorem test_step_halt_bug :
    stepped (atC200 (irqs lab 0x01 0b00001 false) 0x76 0x3C 0x00)
      (fun t => (t.cpu.mode, t.cpu.haltBug, t.cpu.pc)) = some (.running, true, 0xC201) := by decide +kernel

/-- Vector Y7: the opcode after the halt bug is read twice. -/
theorem test_step_after_halt_bug :
    stepped (atC200 { lab with cpu := { lab.cpu with haltBug := true } } 0x3E 0x14 0x00)
      (fun t => (t.cpu.a, t.cpu.pc, t.cpu.haltBug)) = some (0x3E, 0xC201, false) := by decide +kernel

/-- Vector Y8: after `EI; HALT` the dispatch pushes the address of the `HALT`. -/
theorem test_step_dispatch_after_ei_halt :
    stepped { (irqs ((lab.setPc 0xC202).setSp 0xD000) 0x01 0b00001 true) with
        cpu := { lab.cpu with pc := 0xC202, sp := 0xD000, ime := true, haltBug := true } }
      (fun t => (t.cpu.pc, t.byteAt 0xCFFF, t.byteAt 0xCFFE, t.cpu.ime, t.irq.req)) =
    some (0x0040, 0xC2, 0x01, false, 0b00000) := by decide +kernel

/-- Vector I5: the vector is chosen before the pushes, and the first push writes IE. -/
theorem test_step_dispatch_pushes_into_ie :
    stepped (irqs ((lab.setPc 0xC200).setSp 0x0000) 0x01 0b00001 true)
      (fun t => (t.cpu.pc, t.irq.ie, t.byteAt 0xFFFE, t.cpu.sp, t.info.cycles)) =
    some (0x0040, 0xC2, 0x00, 0xFFFE, 20) := by decide +kernel

/-- Vector Y9: an illegal opcode sets the record and nothing else. -/
theorem test_step_illegal :
    step (atC200 lab 0xDB 0x00 0x00) =
      .next { atC200 lab 0xDB 0x00 0x00 with
        fault := some { kind := .illegalOpcode, pc := 0xC200, addr := 0xC200, opcode := 0xDB } } := by rfl

/-- Vector Y10: `STOP` stops, clears the counter and skips its second byte. -/
theorem test_step_stop :
    stepped (atC200 { lab with timer := { lab.timer with counter := 0x1234 } } 0x10 0x00 0x00)
      (fun t => (t.cpu.mode, t.timer.counter, t.cpu.pc)) = some (.stopped, 0x0000, 0xC202) := by decide +kernel

/-- Vector C13: the offset of a `JR` at FFFE is IE, and PC wraps. -/
theorem test_step_jr_across_top :
    stepped ((irqs (lab.setPc 0xFFFE) 0xFE 0b00000 false).setByte 0xFFFE 0x18) (fun t => t.cpu.pc) = some 0xFFFE := by
  decide +kernel

/-- Vector K3: a store below FF00 during OAM DMA faults, and the step has no other effect. -/
theorem test_step_store_during_dma :
    step { (irqs lab 0x00 0b00000 false) with
        cpu := { lab.cpu with pc := 0xFF80, a := 0x55 }, dma := { reg := 0xC1, remaining := 640 }
        mem := [(0xFF80, 0xEA), (0xFF82, 0xC0)] } =
      .next
        { (irqs lab 0x00 0b00000 false) with
          cpu := { lab.cpu with pc := 0xFF80, a := 0x55 }, dma := { reg := 0xC1, remaining := 640 }
          mem := [(0xFF80, 0xEA), (0xFF82, 0xC0)]
          fault := some { kind := .dmaBusConflict, pc := 0xFF80, addr := 0xC000, opcode := 0xEA } } := by rfl

/-- `withFetchWord` runs a table word as the first instruction: `LD B,C` (0x41), `BIT 7,H` (0xCB7C). -/
theorem test_withFetchWord :
    (stepped (State.reset.withFetchWord 8 0x41) (fun t => (t.cpu.b, t.cpu.pc)),
      stepped (State.reset.withFetchWord 16 0xCB7C) (fun t => (t.flags.toByte, t.cpu.pc))) =
    (some (0x13, 0x0101), some (0xB0, 0x0102)) := by decide +kernel

/-! ## Devices -/

/-- Vectors T2 and T6: the falling edge of counter bit 3, by time and by a write to DIV. -/
theorem test_timer_edges :
    (advanceDevices 16 { lab with timer := { counter := 0, signal := false, tima := 0, tma := 0, tac := 0b101 } }).timer.tima
        = 0x01
      ∧ (({ lab with timer := { counter := 8, signal := true, tima := 0, tma := 0, tac := 0b101 } } : State).busWrite 0xFF04
        0x77).timer = { counter := 0, signal := false, tima := 0x01, tma := 0, tac := 0b101 } := by
  decide +kernel

/-- Vector T5: an overflow reloads TIMA in the same T-cycle and requests. -/
theorem test_timer_overflow :
    (fun t : State => (t.timer.tima, t.irq.req))
        ({ lab with
            timer := { counter := 15, signal := true, tima := 0xFF, tma := 0xFE, tac := 0b101 }
            irq := { ie := 0, req := 0 } } : State).timerTick = (0xFE, 0b00100) := by decide

/-- Vectors J1 and T10, V1: FF00 reads CF, FF07 reads F8, STAT reads 86 at reset. -/
theorem test_reset_reads :
    [(0xFF00 : Addr), 0xFF07, 0xFF41, 0xFF02, 0xFF0F, 0xFF04].map (fun a => (State.reset.busRead a).1) =
      [0xCF, 0xF8, 0x86, 0x7E, 0xE1, 0xAB] := by decide

/-- Vector J3: Start raises the request only once its group is selected. -/
theorem test_joypad_selection :
    [0x20, 0x10].map (fun (v : Byte) =>
      (((irqs State.reset 0x00 0b00000 false).busWrite 0xFF00 v).setInputState .start true).joypadSample.irq.req) =
    [0b00000, 0b10000] := by decide

/-- Vectors V2 to V4 by the mode function: mode 2, 3 and 0 of a visible line, mode 1 from line 144 on. -/
theorem test_modes :
    [modeOf 0 79, modeOf 0 80, modeOf 0 251, modeOf 0 252, modeOf 143 455, modeOf 144 0, modeOf 153 455] =
      [.oamScan, .drawing, .drawing, .hBlank, .hBlank, .vBlank, .vBlank] := by decide

/-- Vector V7: clearing LCDC bit 7 stops the PPU at line 0 with STAT reading 84. -/
theorem test_lcd_off :
    (fun t : State => (t.ppu.ly, t.ppu.dot, t.ppu.statRead))
        (({ lab with ppu := { Ppu.reset with ly := 5, dot := 300, mode := .hBlank } } : State).busWrite 0xFF40 0x11) =
      (0x00, 0, 0x84) := by decide

/-- Vectors V9 and V10: the tile row lo=3C hi=7E and its shades under BGP=E4 and FC. -/
theorem test_tile_row :
    (List.range 8).map (fun x => (tileColour [(0x8000, 0x3C), (0x8001, 0x7E)] 0x8000 0 x).toNat) = [0, 2, 3, 3, 3, 3, 2, 0]
      ∧ (List.range 4).map (fun c => (paletteShade 0xE4 (BitVec.ofNat 2 c)).toNat) = [0, 1, 2, 3]
      ∧ (List.range 4).map (fun c => (paletteShade 0xFC (BitVec.ofNat 2 c)).toNat) = [0, 3, 3, 3] := by decide

/-- Vector V11: with LCDC bit 4 = 0 tile 80 stands at 8800. -/
theorem test_signed_tile_address : ({ Ppu.reset with lcdc := 0x81 } : Ppu).bgTileAddr 0x80 = 0x8800 := by decide

/-- Three sprites over pixel 10, all opaque: the tile 0 at 8000 is solid. -/
def sprites : List Sprite := [⟨16, 0x14, 0, 0⟩, ⟨16, 0x12, 0, 0⟩, ⟨16, 0x12, 1, 0⟩]

/-- Vectors V14 and V15: the smaller X wins, then the smaller OAM index. -/
theorem test_sprite_priority :
    ({ lab with mem := [(0x8000, 0xFF), (0x8010, 0xFF)] } : State).winner sprites 13 = some ⟨16, 0x12, 0, 0⟩
      ∧ ({ lab with mem := [] } : State).winner sprites 13 = none := by decide

/-- Vector K5: FF46 written with E1 copies from C100, and FF46 reads back. -/
theorem test_dma_echo_source :
    (fun t : State => (t.byteAt 0xFE00, t.byteAt 0xFE9F, t.dma))
        ((((lab.setByte 0xC100 0x11).setByte 0xC19F 0x22).setByte 0xC1A0 0x33).busWrite 0xFF46 0xE1) =
      (0x11, 0x22, { reg := 0xE1, remaining := 640 }) := by decide +kernel

/-! ## Cartridge, loader, host -/

/-- MBC1 at power-on. -/
def mbc1 : Mbc1 := { ramEnable := false, bank1 := 1, bank2 := 0, mode := false }

/-- Vectors M1 to M7: MBC1 bank numbers, reduced modulo the banks present. -/
theorem test_mbc1_banks :
    [(8, 0x05), (8, 0x00), (8, 0x09), (8, 0x20), (8, 0x08)].map (fun (p : Nat × Byte) =>
        ({ Cart.romOnly with romBanks := p.1, mbc := .mbc1 (mbc1.write 0x2000 p.2) } : Cart).romOffset 0x4000 / 16384) =
      [5, 1, 1, 1, 0]
      ∧ (fun m : Mbc1 => ((Mbc.mbc1 m).romBankN, (Mbc.mbc1 m).romBank0, (Mbc.mbc1 (m.write 0x6000 0x01)).romBank0))
        ((mbc1.write 0x2000 0x02).write 0x4000 0x01) = (0x22, 0, 0x20) := by decide

/-- Vectors M10, M12 to M14: MBC2, MBC3 and MBC5 bank numbers. -/
theorem test_other_banks :
    (Mbc.mbc2 (({ ramEnable := false, romBank := 5 } : Mbc2).write 0x0100 0x00)).romBankN = 1
      ∧ (fun m : Mbc5 => (Mbc.mbc5 ((m.write false 0x2000 0x00).write false 0x3000 0x00)).romBankN)
        { ramEnable := false, romBank := 1, ramBank := 0, motor := false } = 0
      ∧ (fun m : Mbc5 => (Mbc.mbc5 ((m.write false 0x2000 0x05).write false 0x3000 0x01)).romBankN)
        { ramEnable := false, romBank := 1, ramBank := 0, motor := false } = 0x105 := by decide

/-- Vector M11: an MBC2 cell keeps four bits, and the 512 cells repeat. -/
theorem test_mbc2_cells :
    (fun t : State => ((t.busRead 0xA000).1, (t.busRead 0xA200).1, (t.busRead 0xA001).1))
        (({ lab with
          cart := { Cart.romOnly with ramSize := 512, mbc := .mbc2 { ramEnable := true, romBank := 1 } } } : State).busWrite
          0xA000 0x5C) = (0xFC, 0xFC, 0xF0) := by decide

/-- Vectors R1, R3 and R4: the day wrap with its carry, a halted clock, and an out-of-range second. -/
theorem test_rtc_second :
    ({ s := 59, m := 59, h := 23, dl := 0xFF, day8 := true, halt := false, carry := false } : Rtc).tickSecond =
        { Rtc.zero with carry := true }
      ∧ ({ Rtc.zero with s := 59, halt := true } : Rtc).tickSecond = { Rtc.zero with s := 59, halt := true }
      ∧ ({ Rtc.zero with s := 63 } : Rtc).tickSecond = Rtc.zero := by decide

/-- A 32 KiB image with the header bytes of vector L1, and others put over them. -/
def image (len : Nat) (bytes : List (Nat × Byte)) : RomImage where
  len := len
  bytes := bytes.foldl (fun m b => m.write b.1 b.2) [(0x14D, 0xE7)]

/-- Vectors L1, L3 to L15: the status of each file. -/
theorem test_loader :
    [(32768, []), (32769, []), (16384, []), (65536, [(0x147, 0x01), (0x148, 0x01), (0x14D, 0xE5)]),
      (32768, [(0x147, 0x20), (0x14D, 0xC7)]), (32768, [(0x14D, 0x00)]), (0x14F, []),
      (32768, [(0x148, 0x09), (0x14D, 0xDE)]), (8388609, []), (65536, [(0x148, 0x01), (0x14D, 0xE6)]),
      (32768, [(0x149, 0x06), (0x14D, 0xE1)]), (32768, [(0x147, 0x08), (0x149, 0x03), (0x14D, 0xDC)]),
      (32768, [(0x147, 0x05), (0x149, 0x06), (0x14D, 0xDC)]), (32769, [(0x14D, 0x00)])].map
      (fun (p : Nat × List (Nat × Byte)) => (State.reset.loadGame (some (image p.1 p.2)) [] []).1) =
    [.loaded, .romSizeMismatch, .romSizeMismatch, .loaded, .romUnsupportedMbc, .romParseError, .romParseError,
      .romParseError, .romTooBig, .romTooBig, .ramSizeUnsupported, .ramSizeUnsupported, .loaded, .romParseError] := by
  decide +kernel

/-- Vectors L2, H5 and S4: a failed load leaves its status, and `doTick` returns 0. -/
theorem test_failed_load :
    (fun r : CartStatus × State => (r.1, r.2.cart.status)) (State.reset.loadGame none [] []) =
        (.romFileNotReadable, .romFileNotReadable)
      ∧ State.reset.doTick = .next { mask := 0, state := State.reset, calls := [] } := by
  exact ⟨rfl, rfl⟩

/-- Vector H6: with a fault set `doTick` returns 0b10. -/
theorem test_doTick_fault :
    (match ({ lab with fault := some { kind := .illegalOpcode, pc := 0, addr := 0, opcode := 0xDB } } : State).doTick with
      | .next r => some r.mask
      | _ => none) = some 0b10 := by decide +kernel

/-- Vectors H7 and H8: the dump of an MBC2 cell, and a dump of the wrong length. -/
theorem test_cartridge_ram :
    (match (({ lab with cart := { Cart.romOnly with ramSize := 2, mbc := .mbc2 { ramEnable := true, romBank := 1 } } } :
        State).setByte 0x10000 0x0C).writeCartridgeRam with
      | .ok l => l
      | .error _ => []) = [0xFC, 0xF0]
      ∧ (match ({ lab with cart := { Cart.romOnly with ramSize := 8192 } } : State).loadCartridgeRam [0, 0, 0] with
        | .ok _ => none
        | .error e => some e) = some .wrongLength := by decide

/-! ## Witnesses: a state and operands that meet the hypotheses of each statement -/

/-- The record of the invariant at `State.reset`. -/
theorem test_reset_inv : State.reset.Inv :=
  ⟨by decide, by decide, by decide, by decide, by decide, by decide, by decide,
    ⟨by decide, by decide, by decide, by decide, List.length_replicate⟩, trivial, by decide⟩

theorem test_lab_inv : lab.Inv :=
  ⟨by decide, by decide, by decide, by decide, by decide, by decide, by decide,
    ⟨by decide, by decide, by decide, by decide, List.length_replicate⟩, trivial, by decide⟩

theorem test_witness_DecodeEncodeRoundTrip : (Instr.ld_bc_n16 0xFFFF).WellFormed := by decide

theorem test_witness_LoadLeavesResetValues :
    (match (image 32768 []).parse with
      | .ok c => some (c.romBanks, c.ramSize, c.mbc)
      | .error _ => none) = some (2, 0, .romOnly) := by decide +kernel

theorem test_witness_LoadEstablishesInvariant :
    (match (image 65536 [(0x147, 0x13), (0x148, 0x01), (0x149, 0x03), (0x14D, 0xD0)]).parse with
      | .ok c => some (c.romBanks, c.ramSize)
      | .error _ => none) = some (4, 32768) := by decide +kernel

theorem test_witness_StepKeepsInvariant : lab.Inv ∧ stepped lab (fun t => t.cpu.pc) = some 0x0101 :=
  ⟨test_lab_inv, by decide +kernel⟩

theorem test_witness_StepAlwaysAnswers :
    (atC200 lab 0xDB 0 0).fault = none ∧ stepped (atC200 lab 0xDB 0 0) (fun t => t.fault ≠ none) = some True
      ∧ State.reset.cart.status ≠ .loaded :=
  ⟨rfl, congrArg some (eq_true (by decide)), by decide⟩

/-- The state after the joypad sample of a step from C200. -/
def sampled (b0 b1 b2 : Byte) : State :=
  ({ atC200 lab b0 b1 b2 with info := { cycles := 0, instPc := 0, dmaWritten := false, calls := [] } } : State).joypadSample

theorem test_witness_StepRunsDecodedInstruction :
    (atC200 lab 0x01 0x34 0x12).cart.status = .loaded ∧ (atC200 lab 0x01 0x34 0x12).fault = none
      ∧ (atC200 lab 0x01 0x34 0x12).cpu.mode = .running ∧ (atC200 lab 0x01 0x34 0x12).cpu.ime = false
      ∧ decode (sampled 0x01 0x34 0x12).fetchInstr.1 = .ok (.ld_bc_n16 0x1234) ∧ (Instr.ld_bc_n16 0x1234).WellFormed
      ∧ after (.ld_bc_n16 0x1234) (sampled 0x01 0x34 0x12).fetchInstr.2 (fun t => (t.fault, t.cpu.mode)) =
        some (none, .running) :=
  ⟨by decide, by decide, by decide, by decide, by rfl, by decide, by decide⟩

/-- `STOP` with IME = 1 and nothing pending, the clause in which no device moves. -/
theorem test_witness_StepRunsDecodedInstruction_stop :
    decode (sampled 0x10 0 0).fetchInstr.1 = .ok (.stop 0) ∧ (sampled 0x10 0 0).pending = false
      ∧ after (.stop 0) (sampled 0x10 0 0).fetchInstr.2 (fun t => (t.fault, t.cpu.mode)) = some (none, .stopped) :=
  ⟨by rfl, by decide, by decide⟩

theorem test_witness_StepRunsDecodedInstruction_fault :
    decode (sampled 0xDB 0 0).fetchInstr.1 = .ok .illegal_db ∧ (atC200 lab 0xDB 0 0).cpu.ime = false
      ∧ after .illegal_db (sampled 0xDB 0 0).fetchInstr.2 (fun t => t.fault.isSome) = some true :=
  ⟨by rfl, by decide, by decide⟩

theorem test_witness_FetchReadsInstructionAtPc :
    (∀ k, k < 3 → (lab.memRead (lab.cpu.pc + BitVec.ofNat 16 k)).2.draws = lab.draws) ∧ lab.cpu.haltBug = false
      ∧ ({ lab with cpu := { lab.cpu with haltBug := true } } : State).cpu.haltBug = true :=
  ⟨fun k hk => by interval_cases k <;> rfl, rfl, rfl⟩

theorem test_witness_FaultedStepChangesOnlyTheFault :
    (atC200 lab 0xDB 0 0).fault = none ∧ stepped (atC200 lab 0xDB 0 0) (fun t => t.fault.isSome) = some true :=
  ⟨rfl, by decide⟩

theorem test_witness_LegalInstructionsCompleteOutsideDma : ¬IsIllegal .push_bc ∧ lab.dma.remaining = 0 :=
  ⟨fun ⟨o, h⟩ => by (cases o <;> cases h), rfl⟩

theorem test_witness_ReadGivesLastByteWritten :
    lab.mem.wf = true ∧ lab.dmaHolds 0xE000 = false
      ∧ [(0xC000 : Addr), 0xDFFF, 0xE000, 0xFDFF, 0xFF80, 0xFFFE].map ramPlace =
        [some 0xC000, some 0xDFFF, some 0xC000, some 0xDDFF, some 0xFF80, some 0xFFFE] := by decide

theorem test_witness_StoreToMemory : lab.mem.wf = true ∧ lab.dmaHolds (lab.pair .hl) = false := by decide

/-- `lab` during OAM DMA, with SP and HL. -/
def busy (sp hl : Addr) : State := ({ lab with dma := { reg := 0xC1, remaining := 1 } } : State).setSp sp |>.setPair .hl hl

theorem test_witness_StoreDuringDmaFaults :
    (busy 0xFF00 0xFEFF).dmaHolds ((busy 0xFF00 0xFEFF).pair .hl) = true
      ∧ (busy 0xFF00 0xFEFF).dmaHolds ((busy 0xFF00 0xFEFF).cpu.sp - 1) = true
      ∧ (busy 0xFF01 0xFEFF).dmaHolds ((busy 0xFF01 0xFEFF).cpu.sp - 1) = false
      ∧ (busy 0xFF01 0xFEFF).dmaHolds ((busy 0xFF01 0xFEFF).cpu.sp - 2) = true
      ∧ (busy 0xFF01 0xFEFF).dmaHolds 0xFFFF = false ∧ (busy 0xFF01 0xFEFF).dmaHolds (0xFFFF + 1) = true
      ∧ (busy 0xFF00 0xFEFF).flags.cond .z = true ∧ (busy 0xFF01 0xFEFF).flags.cond .c = true := by decide

theorem test_witness_LoadAndStoreThenStepHL :
    (lab.setPair .hl 0xFFFF).mem.wf = true
      ∧ (lab.setPair .hl 0xFFFF).dmaHolds ((lab.setPair .hl 0xFFFF).pair .hl) = false := by decide

theorem test_witness_SixteenBitLoads :
    lab.mem.wf = true ∧ lab.dmaHolds 0xFFFF = false ∧ lab.dmaHolds (0xFFFF + 1) = false := by decide

theorem test_witness_PushStoresPairBelowStack : lab.mem.wf = true ∧ StackFree lab := ⟨by decide, by decide, by decide⟩

theorem test_witness_EightBitIncrementDecrement :
    (atHL 0xFF [] 0).mem.wf = true ∧ (atHL 0xFF [] 0).dmaHolds ((atHL 0xFF [] 0).pair .hl) = false := by decide

theorem test_witness_DecimalArithmetic :
    (99 : Nat) < 100 ∧ (1 : Nat) < 100 ∧ (regs [(.a, 0x99), (.b, 0x01)] 0).reg .a = bcd 99
      ∧ (regs [(.a, 0x99), (.b, 0x01)] 0).reg .b = bcd 1 := by decide

theorem test_witness_RotatesAndShifts :
    (atHL 0x80 [] 0).mem.wf = true ∧ (atHL 0x80 [] 0).dmaHolds ((atHL 0x80 [] 0).pair .hl) = false := by decide

theorem test_witness_AccumulatorRotates :
    (Instr.rra, RotOp.rr) ∈ [(Instr.rlca, RotOp.rlc), (.rrca, .rrc), (.rla, .rl), (.rra, .rr)] := by simp

theorem test_witness_BitResetAndSet :
    (atHL 0x01 [] 0).mem.wf = true ∧ (atHL 0x01 [] 0).dmaHolds ((atHL 0x01 [] 0).pair .hl) = false := by decide

theorem test_witness_PrefixRunsSecondByte : lab.dma.remaining = 0 := rfl

theorem test_witness_Calls :
    lab.mem.wf = true ∧ StackFree lab ∧ lab.flags.cond .z = true ∧ lab.flags.cond .nz = false :=
  ⟨by decide, ⟨by decide, by decide⟩, by decide, by decide⟩

theorem test_witness_Returns : lab.flags.cond .c = true ∧ lab.flags.cond .nc = false := by decide

theorem test_witness_StackRoundTrip :
    lab.mem.wf = true ∧ lab.dma.remaining = 0 ∧ 0xC002 ≤ (lab.setSp 0xC002).cpu.sp.toNat
      ∧ (lab.setSp 0xE000).cpu.sp.toNat ≤ 0xE000 := by decide

theorem test_witness_NopAndInterruptEnable :
    [(0 : Fin 3), 1, 2].map (fun d => (({ lab with cpu := { lab.cpu with eiDelay := d } } : State).eiDelayUpdate.cpu.eiDelay,
      ({ lab with cpu := { lab.cpu with eiDelay := d } } : State).eiDelayUpdate.cpu.ime)) =
    [(0, false), (0, true), (1, false)] := by decide

/-- `lab` with IME = 1 and the joypad request, the last in order, pending. -/
def requested : State := irqs lab 0x10 0b10000 true

theorem test_witness_DispatchServesLowestRequest :
    requested.mem.wf = true ∧ requested.pending = true ∧ StackFree requested :=
  ⟨by decide, by decide, by decide, by decide⟩

theorem test_witness_StepDispatchesInterrupt :
    requested.cart.status = .loaded ∧ requested.fault = none ∧ requested.cpu.mode = .running ∧ requested.cpu.ime = true
      ∧ requested.beginStep.joypadSample.pending = true
      ∧ (match requested.beginStep.joypadSample.dispatchInterrupt with
        | .ok t => some t.cpu.pc
        | .error _ => none) = some 0x0060 := by decide

/-- The same during OAM DMA, with the stack at the last address that it holds. -/
def requestedBusy : State := ({ requested with dma := { reg := 0, remaining := 640 } } : State).setSp 0xFF00

theorem test_witness_StepDispatchesInterrupt_fault :
    requestedBusy.cart.status = .loaded ∧ requestedBusy.fault = none ∧ requestedBusy.cpu.mode = .running
      ∧ requestedBusy.cpu.ime = true ∧ requestedBusy.beginStep.joypadSample.pending = true
      ∧ requestedBusy.dmaHolds (requestedBusy.cpu.sp - 1) = true := by decide

/-- The same with the first push at FF00, which goes through, and the second at FEFF, which is refused. -/
theorem test_witness_StepDispatchesInterrupt_second_push :
    (requestedBusy.setSp 0xFF01).beginStep.joypadSample.pending = true
      ∧ (requestedBusy.setSp 0xFF01).dmaHolds ((requestedBusy.setSp 0xFF01).cpu.sp - 1) = false
      ∧ (requestedBusy.setSp 0xFF01).dmaHolds ((requestedBusy.setSp 0xFF01).cpu.sp - 2) = true
      ∧ stepped (requestedBusy.setSp 0xFF01) (fun t => (t.fault.map (·.addr), t.cpu, t.irq, t.joypad)) =
        some (some 0xFEFF, (requestedBusy.setSp 0xFF01).cpu, requestedBusy.irq, requestedBusy.joypad) := by decide

theorem test_witness_HaltedAndStoppedSteps :
    lab.cart.status = .loaded ∧ lab.fault = none
      ∧ ({ lab with cpu := { lab.cpu with mode := .halted } } : State).cpu.mode = .halted
      ∧ ({ lab with cpu := { lab.cpu with mode := .stopped } } : State).cpu.mode = .stopped := by decide

theorem test_witness_JoypadLinesAndRequest :
    (({ Joypad.reset with keys := { Keys.released with right := true } } : Joypad).lines, Joypad.reset.linesPrev) =
      (0b1110, 0b1111) := by decide

/-- Each region's first and last addresses, read from a state whose LCD is off; the two draws stand last. -/
theorem test_witness_BusReadsByRegion :
    [(0x0000 : Addr), 0x7FFF, 0x8000, 0x9FFF, 0xC000, 0xDFFF, 0xE000, 0xFDFF, 0xFE00, 0xFE9F, 0xFF03, 0xFF08, 0xFF0E,
        0xFF4C, 0xFF7F, 0xFF80, 0xFFFE, 0xFFFF].map (fun a => (lab.dmaHolds a, (lab.memRead a).1)) =
      [0x00, 0x00, 0x00, 0x00, 0x00, 0x00, 0x00, 0x00, 0x00, 0x00, 0xFF, 0xFF, 0xFF, 0xFF, 0xFF, 0x00, 0x00, 0x00].map
        (fun (v : Byte) => (false, v))
      ∧ [(0xFEA0 : Addr), 0xFEFF, 0xFF10, 0xFF3F].map (fun a => (lab.memRead a).2.draws) = [1, 1, 1, 1] := by decide

/-- The PPU's two gates closed: VRAM in mode 3, OAM in modes 2 and 3. -/
theorem test_witness_BusReadsByRegion_closed :
    [PpuMode.hBlank, .vBlank, .oamScan, .drawing].map (fun m =>
      ((({ lab with ppu := { Ppu.reset with mode := m } } : State).memRead 0x8000).1,
        (({ lab with ppu := { Ppu.reset with mode := m } } : State).memRead 0xFE00).1)) =
    [(0x00, 0x00), (0x00, 0x00), (0x00, 0xFF), (0xFF, 0xFF)] := by decide

/-- `lab` with another cartridge, whose RAM bytes 0 and 4000 (hexadecimal) hold 55 and 66. -/
def withMbc (ramSize : Nat) (rtc : Bool) (m : Mbc) : State :=
  { lab with cart := { Cart.romOnly with ramSize := ramSize, rtc := rtc, mbc := m }, mem := [(0x10000, 0x55), (0x14000, 0x66)] }

/-- A clock that differs in every register from its latched copy, whose DH is C1 and whose S is 3B. -/
def clock (en : Bool) (sel : BitVec 4) : Mbc :=
  .mbc3
    { ramEnable := en, romBank := 1, sel := sel, latchPrev := 0xFF, live := Rtc.zero
      latched := { s := 0x3B, m := 0x01, h := 0x17, dl := 0xFF, day8 := true, halt := true, carry := true } }

/-- Each clause of the window A000-BFFF: vectors M8, M9 and M11, R205, the RTC registers of R215 and the selections that
give FF. -/
theorem test_witness_BusReadsByRegion_window :
    [withMbc 8192 false .romOnly, withMbc 0 false .romOnly,
        withMbc 32768 false (.mbc1 { ramEnable := true, bank1 := 1, bank2 := 2, mode := true }),
        withMbc 32768 false (.mbc1 { ramEnable := true, bank1 := 1, bank2 := 2, mode := false }),
        withMbc 32768 false (.mbc1 { ramEnable := false, bank1 := 1, bank2 := 2, mode := false }),
        withMbc 512 false (.mbc2 { ramEnable := true, romBank := 1 }),
        withMbc 512 false (.mbc2 { ramEnable := false, romBank := 1 }),
        withMbc 32768 false (clock true 2), withMbc 0 false (clock true 2), withMbc 32768 true (clock false 8),
        withMbc 32768 true (clock true 8), withMbc 32768 true (clock true 0xC), withMbc 32768 true (clock true 0xD),
        withMbc 32768 true (clock true 0xF), withMbc 32768 false (clock true 8),
        withMbc 131072 false (.mbc5 { ramEnable := true, romBank := 0, ramBank := 2, motor := false })].map
        (fun s => (s.dmaHolds 0xA000, (s.memRead 0xA000).1)) =
      [0x55, 0xFF, 0x66, 0x55, 0xFF, 0xF5, 0xFF, 0x66, 0xFF, 0xFF, 0x3B, 0xC1, 0xFF, 0xFF, 0xFF, 0x66].map
        (fun (v : Byte) => (false, v)) := by decide

/-- Writes to the window: a RAM bank (M8), a closed gate (M9), an MBC2 cell (M11), and a live RTC register, masked, with
the latched one unchanged (R216). -/
theorem test_witness_BusWritesByRegion_window :
    ((withMbc 32768 false (.mbc1 { ramEnable := true, bank1 := 1, bank2 := 2, mode := true })).busWrite 0xA000 0x77).mem =
        [(0x10000, 0x55), (0x14000, 0x77)]
      ∧ (withMbc 32768 false (clock false 2)).busWrite 0xBFFF 0x77 = withMbc 32768 false (clock false 2)
      ∧ ((withMbc 512 false (.mbc2 { ramEnable := true, romBank := 1 })).busWrite 0xA200 0x5C).mem =
        [(0x10000, 0x0C), (0x14000, 0x66)]
      ∧ (match ((withMbc 0 true (clock true 0xA)).busWrite 0xA000 0xFF).cart.mbc with
        | .mbc3 m => (m.live.h, m.latched.h)
        | _ => (0, 0)) = (0x1F, 0x17) := by decide +kernel

/-- Vector of R630: with Right and Start held, P1 reads E under the directions and 7 under the buttons. -/
theorem test_witness_IoRegistersReadBack_keys :
    [(0x20 : Byte), 0x10, 0x00, 0x30].map (fun v =>
        ((((lab.setInputState .right true).setInputState .start true).busWrite 0xFF00 v).busRead 0xFF00).1) =
      [0xEE, 0xD7, 0xC6, 0xFF] := by decide

/-- A PPU on line 144, on its coincidence line, with the LYC select. -/
def onLine144 : State := { lab with ppu := { Ppu.reset with ly := 144, lyc := 144, mode := .vBlank, statSel := 0b1000 } }

/-- Device-owned reads: DIV is the counter's upper byte (T1), LY the line, STAT the coincidence and the mode (R662), SC
of a transfer on the internal clock, TAC and IF with their unused bits (T10), and with the LCD off LY 00 and STAT 84
(V7). -/
theorem test_witness_BusReadsByRegion_registers :
    [(0xFF04 : Addr), 0xFF44, 0xFF41, 0xFF02, 0xFF07, 0xFF0F].map (fun a =>
        (({ onLine144 with serial := { Serial.reset with transfer := true, internalClock := true } } : State).memRead a).1) =
      [0xAB, 0x90, 0xC5, 0xFF, 0xF8, 0xE1]
      ∧ [(0xFF44 : Addr), 0xFF41].map (fun a => (lab.memRead a).1) = [0x00, 0x84] := by decide

/-- The PPU of these reads has its invariant. -/
theorem test_witness_BusReadsByRegion_stat : onLine144.ppu.Inv ∧ lab.ppu.Inv :=
  ⟨⟨by decide, by decide, by decide, by decide, List.length_replicate⟩, test_lab_inv.ppu⟩

/-- Vectors T6 to T8 and the reload of T5: TIMA and IF after a write of DIV or TAC. -/
theorem test_timer_write_edges :
    [((0x0008 : BitVec 16), true, (0x10 : Byte), (0xFF04 : Addr), (0x77 : Byte)), (0x0008, true, 0x10, 0xFF07, 0x00),
        (0x0000, false, 0x10, 0xFF04, 0x00), (0x0008, true, 0xFF, 0xFF04, 0x00), (0x0008, true, 0x10, 0xFF07, 0x05)].map
        (fun v => (fun t : State => (t.timer.tima, t.timer.signal, t.irq.req))
          (({ lab with timer := { counter := v.1, signal := v.2.1, tima := v.2.2.1, tma := 0xFE, tac := 0b101 } } :
            State).busWrite v.2.2.2.1 v.2.2.2.2)) =
      [(0x11, false, 1), (0x11, false, 1), (0x10, false, 1), (0xFE, false, 5), (0x10, true, 1)] := by decide +kernel

/-- Vectors V7 and V8, Q2 and Q3: the LCD switched off and on, a transfer stopped, and a write that starts none. -/
theorem test_lcd_and_serial_writes :
    (fun p : Ppu => (p.ly, p.dot, p.mode, p.statLine)) (onLine144.busWrite 0xFF40 0x11).ppu = (0, 0, .hBlank, false)
      ∧ (fun p : Ppu => (p.ly, p.dot, p.mode, p.windowLine))
          (({ lab with ppu := { lab.ppu with windowLine := 5 } } : State).busWrite 0xFF40 0x91).ppu = (0, 0, .oamScan, 0)
      ∧ (onLine144.busWrite 0xFF40 0x81).ppu = { onLine144.ppu with lcdc := 0x81 }
      ∧ [(0x01 : Byte), 0x80, 0x81].map (fun v =>
          (({ lab with serial := { sb := 0x55, transfer := true, internalClock := true, bits := 3, clock := 7 } } :
            State).busWrite 0xFF02 v).serial) =
        [⟨0x55, false, true, 3, 7⟩, ⟨0x55, true, false, 3, 7⟩, ⟨0x55, true, true, 0, 0⟩] := by decide +kernel

theorem test_witness_BusWritesByRegion :
    [(0x8000 : Addr), 0x9FFF, 0xC000, 0xDFFF, 0xE000, 0xFDFF, 0xFE00, 0xFE9F, 0xFF80, 0xFFFE].map
        (fun a => (lab.busWrite a 0x77).mem) =
      [0x8000, 0x9FFF, 0xC000, 0xDFFF, 0xC000, 0xDDFF, 0xFE00, 0xFE9F, 0xFF80, 0xFFFE].map (fun p => [(p, 0x77)])
      ∧ [(0x0000 : Addr), 0x7FFF, 0xFEA0, 0xFEFF, 0xFF03, 0xFF08, 0xFF0E, 0xFF10, 0xFF3F, 0xFF44, 0xFF4C, 0xFF7F].map
        (fun a => lab.busWrite a 0x77) = List.replicate 12 lab ∧ (lab.busWrite 0xFFFF 0x77).irq.ie = 0x77 := by
  decide +kernel

theorem test_witness_DmaCopiesSourcePageToOam :
    lab.mem.wf = true
      ∧ [(0xC0 : Byte), 0xDF, 0xE0, 0xFF].map (fun v => (word16 v 0x9F).toNat - if 0xE0 ≤ v.toNat then 0x2000 else 0) =
        [0xC09F, 0xDF9F, 0xC09F, 0xDF9F] := by decide

/-- The source byte at the first and last page of each kind: ROM banks 0 and 1 (R131), VRAM in mode 3, cartridge RAM with
its gate open and closed, WRAM, the echo pages. -/
theorem test_dma_source_pages :
    [(0x00 : Byte), 0x3F, 0x40, 0x7F, 0x80, 0x9F, 0xA0, 0xBF, 0xC0, 0xDF, 0xE0, 0xFF].map (fun v =>
        ({ lab with
          cart := { Cart.romOnly with ramSize := 8192, mbc := .mbc1 { ramEnable := true, bank1 := 1, bank2 := 0, mode := false } }
          ppu := { Ppu.reset with mode := .drawing }
          mem := [(0x8000, 1), (0x9F00, 2), (0xC000, 3), (0xDF00, 4), (0x10000, 5), (0x11F00, 6), (0x100000, 7),
            (0x103F00, 8), (0x104000, 9), (0x107F00, 10)] } : State).dmaSource (word16 v 0)) =
      [7, 8, 9, 10, 1, 2, 5, 6, 3, 4, 3, 4]
      ∧ (withMbc 32768 false (clock false 0)).dmaSource 0xA000 = 0xFF := by decide

theorem test_witness_DmaHoldsBusBelowFf00 :
    0 < (busy 0xFF00 0).dma.remaining ∧ ((busy 0xFF00 0).memRead 0xFEFF).2.draws = 1
      ∧ ((busy 0xFF00 0).memRead 0xFF00).2.draws = 0 ∧ lab.dma.remaining = 0 := by decide

theorem test_witness_FrameTiming :
    State.reset.ppu.Inv ∧ State.reset.ppu.lcdOn = true ∧ lab.ppu.Inv ∧ lab.ppu.lcdOn = false :=
  ⟨test_reset_inv.ppu, by decide, test_lab_inv.ppu, by decide⟩

/-- R665: the first and last dots of each mode. -/
theorem test_mode_ranges :
    [((0 : Byte), 0), (143, 79), (0, 80), (143, 251), (0, 252), (143, 455), (144, 0), (153, 455)].map
        (fun p => modeOf p.1 p.2) =
      [.oamScan, .oamScan, .drawing, .drawing, .hBlank, .hBlank, .vBlank, .vBlank] := by decide

/-- The dot before `RenderLine(0)`, and the dot before V-blank. -/
theorem test_witness_PpuDotEvents :
    ({ Ppu.reset with dot := 79 } : Ppu).Inv ∧ ({ Ppu.reset with ly := 143, dot := 455, mode := .hBlank } : Ppu).Inv :=
  ⟨⟨by decide, by decide, by decide, by decide, List.length_replicate⟩,
    ⟨by decide, by decide, by decide, by decide, List.length_replicate⟩⟩

/-- R683: the window line counter over one dot: to 0 on entry to line 0; one more at dot 80 with the window at its bounds
(WY = LY, WX = 166), kept there with WX = 167 or WY below the line, at another dot and on entry to another line. -/
theorem test_window_line :
    [((153 : Byte), 455, PpuMode.vBlank, (0 : Byte), (0 : Byte)), (5, 79, .oamScan, 5, 166), (5, 79, .oamScan, 5, 167),
        (5, 79, .oamScan, 6, 166), (5, 80, .drawing, 5, 166), (5, 455, .hBlank, 5, 166)].map
        (fun p => ({ State.reset with
          ppu := { Ppu.reset with
            lcdc := 0xB1, ly := p.1, dot := p.2.1, mode := p.2.2.1, wy := p.2.2.2.1, wx := p.2.2.2.2,
            windowLine := 7 } } : State).ppuDot.ppu.windowLine) =
      [0, 8, 7, 7, 7, 7] := by decide +kernel

/-- Vector V16 and the bounds of R675: twelve entries on line 0, of which the first ten count, after one whose rows end
above the line and one whose rows begin below it; with 16 rows the first of these two is on the line too. -/
theorem test_sprite_selection :
    (fun s : State => (s.lineSprites.map (·.tile), ({ s with ppu := { s.ppu with lcdc := 0x95 } } : State).lineSprites.map (·.tile)))
        { State.reset with
          mem := ((List.range 14).map fun i =>
            [(0xFE00 + 4 * i, if i = 0 then (8 : Byte) else if i = 1 then 17 else 16),
              (0xFE00 + 4 * i + 2, BitVec.ofNat 8 (i + 1))]).flatten } =
      ([3, 4, 5, 6, 7, 8, 9, 10, 11, 12], [1, 3, 4, 5, 6, 7, 8, 9, 10, 11]) := by decide +kernel

/-- R686: the corner pixels of a sprite at the screen's corner, plain and flipped both ways, and row 8 of a sprite of 16
rows, which is row 0 of the next tile. -/
theorem test_sprite_colours :
    (fun s : State => ([(⟨16, 8, 2, 0x00⟩ : Sprite), ⟨16, 8, 2, 0x20⟩, ⟨16, 8, 2, 0x40⟩, ⟨16, 8, 2, 0x60⟩].map fun sp =>
        (s.spriteColour sp 0).toNat,
      (({ s with ppu := { s.ppu with lcdc := 0x95 } } : State).spriteColour ⟨8, 8, 3, 0⟩ 0).toNat))
      { State.reset with mem := [(0x8020, 0x80), (0x8021, 0x01), (0x802E, 0x01), (0x802F, 0x81), (0x8030, 0x80), (0x8031, 0x80)] } =
      ([1, 2, 2, 3], 3) := by decide

theorem test_witness_SpriteWithSmallestXWins :
    (({ lab with mem := [(0x8000, 0xFF)] } : State).winner sprites 13).isSome = true
      ∧ lab.winner sprites 13 = none ∧ (sprites.map fun sp => sp.covers 13) = [true, true, true] := by decide

/-- A falling edge, a T-cycle without one, and an enabled timer for each of the four selections. -/
theorem test_witness_TimerCountsFallingEdges :
    (fun s : State => (s.timer.signal, s.timerTick.timer.sig))
        { lab with timer := { counter := 15, signal := true, tima := 0xFE, tma := 0, tac := 0b101 } } = (true, false)
      ∧ (fun s : State => (s.timer.signal, s.timerTick.timer.sig))
        { lab with timer := { counter := 14, signal := true, tima := 0xFE, tma := 0, tac := 0b101 } } = (true, true)
      ∧ [(0b100 : BitVec 3), 0b101, 0b110, 0b111].map (fun tac =>
          (tac.getLsbD 2, tac.toNat % 4,
            ({ counter := 0, signal := false, tima := 0, tma := 0, tac := tac } : Timer).sig)) =
        [(true, 0, false), (true, 1, false), (true, 2, false), (true, 3, false)] := by decide

theorem test_witness_SerialTransferTakes4096Cycles :
    [(0x81 : Byte), 0x80, 0x01].map (fun v => (v.getLsbD 7, v.getLsbD 0)) =
      [(true, true), (true, false), (false, true)] := by decide

/-- R628: the last bit of a transfer, and the first. -/
theorem test_serial_bits :
    [(511, 7), (511, 0), (510, 7)].map (fun p =>
        (fun t : State => (t.serial.sb, t.serial.transfer, t.serial.bits, t.serial.clock, t.irq.req))
          ({ lab with
            serial := { sb := 0x55, transfer := true, internalClock := true, bits := p.2, clock := p.1 }
            irq := { lab.irq with req := 0 } } : State).serialTick) =
      [(0xAB, false, 0, 0, 0b01000), (0xAB, true, 1, 0, 0), (0x55, true, 7, 511, 0)] := by decide

/-- The bank at 4000-7FFF, reduced by the banks present: vectors M2 to M6, M10, M12, M14 and M15. -/
theorem test_bank_vectors :
    [(8, Mbc.mbc1 { ramEnable := false, bank1 := 1, bank2 := 0, mode := false }, (0x2000 : Addr), (0x00 : Byte)),
        (8, .mbc1 { ramEnable := false, bank1 := 1, bank2 := 0, mode := false }, 0x2000, 0x09),
        (8, .mbc1 { ramEnable := false, bank1 := 1, bank2 := 0, mode := false }, 0x3FFF, 0x20),
        (8, .mbc1 { ramEnable := false, bank1 := 1, bank2 := 0, mode := false }, 0x2000, 0x08),
        (128, .mbc1 { ramEnable := false, bank1 := 2, bank2 := 0, mode := false }, 0x4000, 0x01),
        (16, .mbc2 { ramEnable := false, romBank := 5 }, 0x0100, 0x00), (128, clock false 0, 0x2000, 0x80),
        (512, .mbc5 { ramEnable := false, romBank := 5, ramBank := 0, motor := false }, 0x3000, 0x01),
        (64, .mbc5 { ramEnable := false, romBank := 1, ramBank := 0, motor := false }, 0x2FFF, 0x45)].map
        (fun v => (({ Cart.romOnly with romBanks := v.1, mbc := v.2.1 } : Cart).mbcWrite v.2.2.1 v.2.2.2).romOffset 0x4000) =
      [1, 1, 1, 0, 0x22, 1, 1, 0x105, 5].map (· * 16384) := by decide +kernel

/-- A write at each end of the register range, and the two targets of the RAM window. -/
theorem test_witness_BankSelection :
    (0x0000 : Addr).toNat < 0x8000 ∧ (0x7FFF : Addr).toNat < 0x8000 ∧ (0x0100 : Addr).getLsbD 8 = true
      ∧ 0 < Cart.romOnly.romBanks ∧ Cart.romOnly.mbc = .romOnly
      ∧ ({ Cart.romOnly with ramSize := 8192 } : Cart).target 0xBFFF = .ram 0x11FFF
      ∧ ({ Cart.romOnly with mbc := .mbc2 { ramEnable := true, romBank := 1 } } : Cart).target 0xBFFF = .cell 0x101FF := by
  decide

/-- Vector R4, and M and H out of range: a wrap without a carry; and the event on a cartridge with and without an RTC. -/
theorem test_rtc_out_of_range :
    [({ Rtc.zero with s := 59, m := 63, h := 5 } : Rtc), { Rtc.zero with s := 59, m := 59, h := 31, dl := 7 },
        { Rtc.zero with s := 60 }].map Rtc.tickSecond =
      [{ Rtc.zero with h := 5 }, { Rtc.zero with dl := 7 }, { Rtc.zero with s := 61 }]
      ∧ (withMbc 0 false (clock true 8)).rtcSecond = withMbc 0 false (clock true 8)
      ∧ (match (withMbc 0 true (clock true 8)).rtcSecond.cart.mbc with
        | .mbc3 m => (m.live.s, m.latched.s)
        | _ => (0, 0)) = (1, 0x3B) := by decide +kernel

theorem test_witness_RtcCountsSeconds :
    ({ Rtc.zero with halt := true } : Rtc).halt = true ∧ Rtc.zero.halt = false ∧ Rtc.zero.s.toNat < 60
      ∧ Rtc.zero.m.toNat < 60 ∧ Rtc.zero.h.toNat < 24 ∧ 0x6000 ≤ (0x6000 : Addr).toNat
      ∧ (0x7FFF : Addr).toNat < 0x8000 := by decide

/-- An image for each clause of the loader's checks. -/
theorem test_witness_LoaderChecksInOrder :
    8388608 < (image 8388609 []).len ∧ (image 0x14F []).len < 0x0150
      ∧ (image 32768 [(0x148, 0x09), (0x14D, 0xDE)]).at 0x148 = 9
      ∧ (image 32768 [(0x14D, 0x00)]).checksum ≠ (image 32768 [(0x14D, 0x00)]).at 0x14D
      ∧ (image 32769 []).checksum = (image 32769 []).at 0x14D ∧ (image 32769 []).len ≠ 32768 * 2 ^ 0
      ∧ cartTypeOf ((image 32768 [(0x147, 0x20), (0x14D, 0xC7)]).at 0x147) = none
      ∧ Variant.romOnly.maxBanks < 2 * 2 ^ 1 ∧ ramSizeOf 0x06 = none ∧ Variant.romOnly.maxRam < 32768
      ∧ cartTypeOf 0x05 = some ⟨.mbc2, false, false, false⟩ ∧ ramSizeOf 0x02 = some 8192 := by decide +kernel

/-- R187: the codes at the ends of each variant's list, and the nearest codes outside. -/
theorem test_cartridge_types :
    [(0x00 : Byte), 0x01, 0x03, 0x04, 0x06, 0x07, 0x09, 0x0A, 0x0B, 0x0E, 0x0F, 0x13, 0x14, 0x18, 0x19, 0x1E, 0x1F].map
        (fun code => (cartTypeOf code).map (·.variant)) =
      [some .romOnly, some .mbc1, some .mbc1, none, some .mbc2, none, some .romOnly, none, none, none, some .mbc3,
        some .mbc3, none, none, some .mbc5, some .mbc5, none] := by decide

theorem test_witness_FailedLoadLeavesNoCartridge :
    (State.reset.loadGame none [] []).1 ≠ .loaded ∧ (State.reset.loadGame (some (image 32769 [])) [] []).1 ≠ .loaded := by
  decide +kernel

/-- Mask 01: a step that reaches line 144 (R669, R672); the frame bit is clear afterwards. -/
theorem test_witness_DoTickMask_frame :
    (match ({ lab with ppu := { Ppu.reset with ly := 143, dot := 452, mode := .hBlank } } : State).doTick with
      | .next r => some (r.mask, r.state.ppu.frameReady, r.state.ppu.ly, r.calls, r.state.info.cycles)
      | _ => none) = some (0b01, false, 144, [.drawScreen], 4) := by decide +kernel

/-- Mask 10: the first step is an illegal opcode. -/
theorem test_witness_DoTickMask :
    lab.cart.status = .loaded ∧ lab.fault = none
      ∧ (match (atC200 lab 0xDB 0 0).doTick with
        | .next r => some (r.mask, r.state.fault.isSome)
        | _ => none) = some (0b10, true) := ⟨rfl, rfl, by decide +kernel⟩

/-- A stopped machine, and the state that each of its steps leaves. -/
def stopped : State := { lab with cpu := { lab.cpu with mode := .stopped } }
def stoppedOn : State := { stopped with info := { StepInfo.none with cycles := 4 } }

/-- Mask 00: a stopped machine runs out the budget (R781). -/
theorem test_witness_DoTickMask_budget : stopped.doTick = .next { mask := 0, state := stoppedOn, calls := [] } := by
  have h1 : step stopped = step stoppedOn := rfl
  have h2 : step stoppedOn = .next stoppedOn := rfl
  rw [State.doTick, if_neg (by decide), if_neg (by decide), tickLoop_congr h1 17555]
  exact tickLoop_fixed h2 rfl rfl rfl _ 0 []

/-- A state and another of the same cartridge, that differ in registers, memory, keys and MBC registers. -/
def saver : State := withMbc 32768 false (.mbc1 { ramEnable := true, bank1 := 7, bank2 := 2, mode := true })
def loader : State :=
  (((withMbc 32768 false (.mbc1 { ramEnable := false, bank1 := 1, bank2 := 0, mode := false })).setByte 0xC000 0x77).setPc
    0xC000).setInputState .a true

theorem test_witness_HostSavesAndRestores :
    saver.mem.wf = true ∧ loader.mem.wf = true ∧ saver.cart.status = .loaded ∧ loader.imageId = saver.imageId
      ∧ loader.cart = { saver.cart with mbc := loader.cart.mbc } ∧ loader.cart.mbc.variant = saver.cart.mbc.variant
      ∧ loader ≠ saver ∧ saver.fault = none ∧ saver.draws = saver.draws := by decide

/-- A blob with registers of another variant, or with a byte of the image, is refused (R191). -/
theorem test_loadState_refuses_other_content :
    ((saver.blob.content.fits saver.cart, ({ saver.blob.content with mbc := .romOnly } : SavedState).fits saver.cart),
        ({ saver.blob.content with ram := [(romBase, 0x01)] } : SavedState).fits saver.cart) =
      ((true, false), false) := by decide

/-- R788 on an MBC2 cartridge of two cells: the low four bits are kept, and the dump gives them under F0. -/
theorem test_witness_HostSavesAndRestores_ram :
    (match (withMbc 2 false (.mbc2 { ramEnable := false, romBank := 1 })).loadCartridgeRam [0x12, 0x3F] with
      | .ok t => some (t.mem, t.writeCartridgeRam.toOption)
      | .error _ => none) = some ([(0x10000, 0x02), (0x10001, 0x0F), (0x14000, 0x66)], some [0xF2, 0xFF]) := by decide

end Sys2Proof.Tests
end

section
/-! The registers: the byte halves of a 16-bit value, F as a byte, and what each 16-bit view reads after a write
(`spec/10_state.md` R31, R33). -/

namespace Sys2Proof.Machine

/-! ## The halves of a 16-bit value -/

theorem toNat_word16 (hi lo : Byte) : (word16 hi lo).toNat = hi.toNat * 256 + lo.toNat := by
  rw [word16, BitVec.toNat_append, ← Nat.shiftLeft_add_eq_or_of_lt lo.isLt, Nat.shiftLeft_eq]

theorem toNat_hiByte (v : Addr) : (hiByte v).toNat = v.toNat / 256 := by
  have := v.isLt
  rw [hiByte, BitVec.extractLsb'_toNat, Nat.shiftRight_eq_div_pow]
  omega

theorem toNat_loByte (v : Addr) : (loByte v).toNat = v.toNat % 256 := by
  rw [loByte, BitVec.extractLsb'_toNat, Nat.shiftRight_zero]

@[simp] theorem word16_hiByte_loByte (v : Addr) : word16 (hiByte v) (loByte v) = v := by
  apply BitVec.eq_of_toNat_eq
  rw [toNat_word16, toNat_hiByte, toNat_loByte]
  omega

/-! ## F as a byte -/

/-- Bits 3..0 of F have no storage (R33). -/
theorem Flags.toByte_ofByte (v : Byte) : (Flags.ofByte v).toByte = v &&& 0xF0 := by
  revert v
  decide

theorem toNat_and_f0 (v : Byte) : (v &&& 0xF0).toNat = v.toNat / 16 * 16 := by
  revert v
  decide

/-- Masking the low half of a pair masks the pair. -/
theorem word16_hiByte_masked (v : Addr) : word16 (hiByte v) (loByte v &&& 0xF0) = v &&& 0xFFF0 := by
  have h : word16 (hiByte v) (loByte v &&& 0xF0) = word16 (hiByte v) (loByte v) &&& word16 0xFF 0xF0 := by
    rw [word16, word16, word16, BitVec.and_append, show (0xFF : Byte) = BitVec.allOnes 8 from rfl, BitVec.and_allOnes]
  rw [h, word16_hiByte_loByte]
  rfl

/-! ## The 16-bit views -/

/-- A pair reads what was written to it; the other three views read as before. -/
theorem State.pair_setPair (s : State) (p q : Rp) (v : Addr) :
    (s.setPair p v).pair q = if q = p then v else s.pair q := by
  by_cases h : q = p
  · rw [if_pos h, h]
    cases p
    case sp => rfl
    all_goals exact word16_hiByte_loByte v
  · rw [if_neg h]
    cases p <;> cases q
    case neg.bc.bc | neg.de.de | neg.hl.hl | neg.sp.sp => exact absurd rfl h
    all_goals rfl

/-- A is half of none of these pairs. -/
theorem State.reg_a_setPair (s : State) (p : Rp) (v : Addr) : (s.setPair p v).reg .a = s.reg .a := by
  cases p <;> rfl

theorem State.pair2_af_setPair2 (s : State) (v : Addr) : (s.setPair2 .af v).pair2 .af = v &&& 0xFFF0 := by
  show word16 (hiByte v) (Flags.ofByte (loByte v)).toByte = _
  rw [Flags.toByte_ofByte, word16_hiByte_masked]

/-- The view that `PUSH` stores reads what `POP` loaded into it, AF without the four bits that F lacks. -/
theorem State.pair2_setPair2 (s : State) (p q : Rp2) (v : Addr) :
    (s.setPair2 p v).pair2 q = if q = p then (if p = .af then v &&& 0xFFF0 else v) else s.pair2 q := by
  by_cases h : q = p
  · rw [if_pos h, h]
    cases p
    case af => exact s.pair2_af_setPair2 v
    all_goals exact word16_hiByte_loByte v
  · rw [if_neg h]
    cases p <;> cases q
    case neg.bc.bc | neg.de.de | neg.hl.hl | neg.af.af => exact absurd rfl h
    all_goals rfl

theorem State.reg_setPair2_af (s : State) (v : Addr) (r : Reg8) :
    (s.setPair2 .af v).reg r = if r = .a then hiByte v else s.reg r :=
  ((s.setReg .a (hiByte v)).reg_setFlags _ r).trans (s.reg_setReg .a r (hiByte v))

theorem State.flags_setPair2_af (s : State) (v : Addr) : (s.setPair2 .af v).flags = Flags.ofByte (loByte v) := rfl

/-- Settles O14: the four views over `toNat_word16`, the writes over `pair_setPair` and `pair2_setPair2`. -/
theorem registerPairsAlias : Obligations.RegisterPairsAlias := by
  refine ⟨fun s => ⟨toNat_word16 _ _, toNat_word16 _ _, toNat_word16 _ _, toNat_word16 _ _⟩, State.pair_setPair,
    State.reg_setReg, State.pair2_setPair2, fun s v => ⟨?_, ?_, fun r hr => ?_⟩,
    fun s p v => ⟨s.reg_a_setPair p v, s.flags_setPair p v⟩, fun s r v => s.flags_setReg r v,
    fun s f => ⟨s.flags_setFlags_same f, s.reg_setFlags f⟩, Flags.toByte_ofByte⟩
  · rw [State.reg_setPair2_af, if_pos rfl, toNat_hiByte]
  · rw [State.flags_setPair2_af, Flags.toByte_ofByte, toNat_and_f0, toNat_loByte]
  · rw [State.reg_setPair2_af, if_neg hr]

end Sys2Proof.Machine
end

section
/-! The fetch: the bytes read and the state after it when no read is a draw (`spec/10_state.md` R36,
`spec/45_system.md` R509). -/

namespace Sys2Proof.Machine

/-! ## A read does not look at the step's record -/

theorem State.ioRead_withInfo (s : State) (i : StepInfo) (r : IoReg) :
    ({ s with info := i } : State).ioRead r = ((s.ioRead r).1, { (s.ioRead r).2 with info := i }) := by
  cases r <;> rfl

theorem State.busRead_withInfo (s : State) (i : StepInfo) (a : Addr) :
    ({ s with info := i } : State).busRead a = ((s.busRead a).1, { (s.busRead a).2 with info := i }) := by
  unfold State.busRead
  cases regionOf a
  case io => exact s.ioRead_withInfo i _
  all_goals rfl

theorem State.memRead_withInfo (s : State) (i : StepInfo) (a : Addr) :
    ({ s with info := i } : State).memRead a = ((s.memRead a).1, { (s.memRead a).2 with info := i }) := by
  have hd : ({ s with info := i } : State).dmaHolds a = s.dmaHolds a := State.dmaHolds_congr rfl a
  rw [State.memRead, State.memRead, hd]
  by_cases h : s.dmaHolds a = true
  · rw [if_pos h, if_pos h]
    rfl
  · rw [if_neg h, if_neg h]
    exact s.busRead_withInfo i a

/-! ## Reads without a draw -/

/-- A read that uses no draw leaves the state as it is. -/
theorem State.memRead_snd_of_noDraw {s : State} {a : Addr} (h : (s.memRead a).2.draws = s.draws) :
    (s.memRead a).2 = s := by
  rw [State.memRead_snd, h]

theorem State.fst_memRead_setPc (s : State) (x a : Addr) : ((s.setPc x).memRead a).1 = (s.memRead a).1 := by
  rw [State.setPc, State.memRead_withCpu]

theorem State.draws_memRead_setPc (s : State) (x a : Addr) :
    ((s.setPc x).memRead a).2.draws = (s.memRead a).2.draws := by
  rw [State.setPc, State.memRead_withCpu]

theorem State.fetch8_of_noDraw {s : State} (h : (s.memRead s.cpu.pc).2.draws = s.draws) :
    s.fetch8 = ((s.memRead s.cpu.pc).1, s.setPc (s.cpu.pc + 1)) := by
  rw [State.fetch8_spec, h]

theorem addr_add_one_add (x : Addr) (k : Nat) : x + 1 + BitVec.ofNat 16 k = x + BitVec.ofNat 16 (k + 1) := by
  rw [BitVec.add_assoc, Nat.add_comm k 1, BitVec.ofNat_add]
  rfl

/-- `n` further bytes without a draw: those at PC and on, and PC past them. -/
theorem fetchMore_of_noDraw (n : Nat) (s : State)
    (h : ∀ k, k < n → (s.memRead (s.cpu.pc + BitVec.ofNat 16 k)).2.draws = s.draws) :
    fetchMore n s =
      ((List.range n).map (fun k => (s.memRead (s.cpu.pc + BitVec.ofNat 16 k)).1),
        s.setPc (s.cpu.pc + BitVec.ofNat 16 n)) := by
  induction n generalizing s with
  | zero => simp [fetchMore, State.setPc]
  | succ n ih =>
    have h0 : (s.memRead s.cpu.pc).2.draws = s.draws := by simpa using h 0 n.succ_pos
    have hrest := ih (s.setPc (s.cpu.pc + 1)) fun k hk => by
      rw [State.draws_memRead_setPc, State.cpu_pc_setPc_same, addr_add_one_add]
      exact h (k + 1) (Nat.succ_lt_succ hk)
    simp only [State.cpu_pc_setPc_same, State.fst_memRead_setPc, addr_add_one_add] at hrest
    simp only [fetchMore, State.fetch8_of_noDraw h0, hrest, List.range_succ_eq_map, List.map_cons, List.map_map]
    simp [Function.comp_def, State.setPc]

/-! ## The opcode byte -/

/-- The record that the fetch makes of the opcode's address, for the fault record of R601. -/
def State.fetching (s : State) : State := { s with info := { s.info with instPc := s.cpu.pc } }

theorem State.memRead_fetching (s : State) (a : Addr) :
    s.fetching.memRead a = ((s.memRead a).1, { (s.memRead a).2 with info := s.fetching.info }) :=
  s.memRead_withInfo _ a

/-- The opcode byte, without the halt bug: PC moves past it. -/
theorem State.fetchOpcode_of_noDraw {s : State} (hb : s.cpu.haltBug = false)
    (h : (s.memRead s.cpu.pc).2.draws = s.draws) :
    s.fetchOpcode = ((s.memRead s.cpu.pc).1, s.fetching.setPc (s.cpu.pc + 1)) := by
  have hf : s.fetchOpcode = s.fetching.fetch8 := if_neg (by rw [hb]; decide)
  have hd : (s.fetching.memRead s.cpu.pc).2.draws = s.draws := by rw [s.memRead_fetching, h]
  rw [hf, State.fetch8_of_noDraw hd, State.memRead_fetching]
  rfl

/-- The opcode byte after the halt bug: PC stays, and the bug is cleared (R509). -/
theorem State.fetchOpcode_of_haltBug {s : State} (hb : s.cpu.haltBug = true)
    (h : (s.memRead s.cpu.pc).2.draws = s.draws) :
    s.fetchOpcode =
      ((s.memRead s.cpu.pc).1, { s.fetching with cpu := { s.cpu with haltBug := false } }) := by
  have hf : s.fetchOpcode =
      ((s.fetching.memRead s.cpu.pc).1,
        { (s.fetching.memRead s.cpu.pc).2 with
          cpu := { (s.fetching.memRead s.cpu.pc).2.cpu with haltBug := false } }) := if_pos hb
  rw [hf, State.memRead_fetching, State.memRead_snd_of_noDraw h]
  rfl

/-! ## The whole instruction -/

theorem instrLength_pos (o : Byte) : 1 ≤ instrLength o := by
  unfold instrLength
  split_ifs <;> omega

theorem instrLength_le_three (o : Byte) : instrLength o ≤ 3 := by
  unfold instrLength
  split_ifs <;> omega

/-- The fetch is the opcode byte and then the further bytes from the state that the opcode's fetch left. -/
theorem State.fetchInstr_of_fetchOpcode {s t : State} {o : Byte} (h : s.fetchOpcode = (o, t)) :
    s.fetchInstr = (o :: (fetchMore (instrLength o - 1) t).1, (fetchMore (instrLength o - 1) t).2) := by
  rw [State.fetchInstr, h]

/-- A read from a state that the opcode's fetch can leave. -/
theorem State.memRead_fetching_withCpu (s : State) (c : Cpu) (a : Addr) :
    ({ s.fetching with cpu := c } : State).memRead a =
      ((s.memRead a).1, { (s.memRead a).2 with cpu := c, info := s.fetching.info }) := by
  rw [State.memRead_withCpu, State.memRead_fetching]

/-- The bytes after the opcode, from the state that the opcode's fetch left: `c` is the CPU of that state. -/
theorem State.fetchMore_fetching {s : State} (n : Nat) (c : Cpu)
    (h : ∀ k, k < n → (s.memRead (c.pc + BitVec.ofNat 16 k)).2.draws = s.draws) :
    fetchMore n { s.fetching with cpu := c } =
      ((List.range n).map (fun k => (s.memRead (c.pc + BitVec.ofNat 16 k)).1),
        { s.fetching with cpu := { c with pc := c.pc + BitVec.ofNat 16 n } }) := by
  rw [fetchMore_of_noDraw]
  · simp only [State.memRead_fetching_withCpu]
    rfl
  · intro k hk
    rw [State.memRead_fetching_withCpu]
    exact h k hk

/-- Settles O10: the opcode's fetch, with and without the halt bug, and then `fetchMore_fetching` from the PC it left. -/
theorem fetchReadsInstructionAtPc : Obligations.FetchReadsInstructionAtPc := by
  intro s hdraw
  have h0 : (s.memRead s.cpu.pc).2.draws = s.draws := by simpa using hdraw 0 (by omega)
  have hle := instrLength_le_three (s.memRead s.cpu.pc).1
  obtain ⟨n, hn⟩ : ∃ n, instrLength (s.memRead s.cpu.pc).1 = n + 1 := Nat.exists_eq_add_of_le' (instrLength_pos _)
  rw [hn] at hle ⊢
  refine ⟨fun hb => ?_, fun hb => ?_⟩
  · have hmore := s.fetchMore_fetching n { s.cpu with pc := s.cpu.pc + 1 } fun k hk => by
      rw [addr_add_one_add]
      exact hdraw (k + 1) (by omega)
    simp only [addr_add_one_add] at hmore
    rw [State.fetchInstr_of_fetchOpcode (State.fetchOpcode_of_noDraw hb h0), hn, Nat.add_sub_cancel]
    have hs : s.fetching.setPc (s.cpu.pc + 1) = { s.fetching with cpu := { s.cpu with pc := s.cpu.pc + 1 } } := rfl
    rw [hs, hmore, List.range_succ_eq_map]
    simp [Function.comp_def, State.fetching]
  · have hmore := s.fetchMore_fetching n { s.cpu with haltBug := false } fun k hk => hdraw k (by omega)
    rw [State.fetchInstr_of_fetchOpcode (State.fetchOpcode_of_haltBug hb h0), hn, Nat.add_sub_cancel, hmore]
    exact ⟨rfl, rfl⟩

end Sys2Proof.Machine
end

section
/-! What a successful load leaves (`spec/70_reset_and_hazards.md` R731): the registers of the devices as they read, the
cartridge and its RAM. -/

namespace Sys2Proof.Machine

/-! ## The CPU -/

/-- The registers of `spec/10_state.md` R53, by the views in which the rule gives them. -/
theorem reset_registers :
    State.reset.flags.toByte = 0xB0 ∧ State.reset.pair .bc = 0x0013 ∧ State.reset.pair .de = 0x00D8
      ∧ State.reset.pair .hl = 0x014D := by decide

/-! ## I/O registers -/

/-- The I/O registers of `spec/10_state.md` R44 with what they read after a reset, but for P1, which depends on the keys. -/
def ioResetValues : List (Addr × Byte) :=
  [(0xFF01, 0x00), (0xFF02, 0x7E), (0xFF04, 0xAB), (0xFF05, 0x00), (0xFF06, 0x00), (0xFF07, 0xF8), (0xFF0F, 0xE1),
    (0xFF40, 0x91), (0xFF41, 0x86), (0xFF42, 0x00), (0xFF43, 0x00), (0xFF44, 0x00), (0xFF45, 0x00), (0xFF46, 0xFF),
    (0xFF47, 0xFC), (0xFF48, 0xFF), (0xFF49, 0xFF), (0xFF4A, 0x00), (0xFF4B, 0x00)]

theorem busRead_reset : (ioResetValues.all fun x => (State.reset.busRead x.1).1 == x.2) = true := by decide +kernel

theorem ioResetValues_route :
    ∀ x ∈ ioResetValues, regionOf x.1 = .io ∧ ioRegOf x.1 ≠ .p1 ∧ ioRegOf x.1 ≠ .audio := by
  simp [ioResetValues, regionOf, ioRegOf]

/-- The devices of a loaded machine, but for the joypad, are those of a reset one. -/
theorem State.ioRead_loaded (s : State) (c : Cart) (m : Memory) {r : IoReg} (h1 : r ≠ .p1) (h2 : r ≠ .audio) :
    ((s.loaded c m).ioRead r).1 = (State.reset.ioRead r).1 := by
  cases r
  case p1 => exact absurd rfl h1
  case audio => exact absurd rfl h2
  all_goals rfl

theorem State.busRead_loaded (s : State) (c : Cart) (m : Memory) {a : Addr} {v : Byte} (h : (a, v) ∈ ioResetValues) :
    ((s.loaded c m).busRead a).1 = v := by
  obtain ⟨hio, hp1, haudio⟩ := ioResetValues_route _ h
  have hr : ((s.loaded c m).busRead a).1 = (State.reset.busRead a).1 := by
    simpa only [State.busRead, hio] using s.ioRead_loaded c m hp1 haudio
  exact hr.trans (eq_of_beq (List.all_eq_true.mp busRead_reset _ h))

/-! ## The cartridge -/

theorem Variant.ramSize_of_ne {v : Variant} (h : v ≠ .mbc2) (code : Byte) : v.ramSize code = ramSizeOf code := by
  cases v
  case mbc2 => exact absurd rfl h
  all_goals rfl

theorem toNat_and_0f (v : Byte) : (v &&& 0x0F).toNat = v.toNat % 16 := by
  revert v
  decide

/-- What cartridge RAM keeps of a byte, as a number (R210). -/
theorem Mbc.toNat_cellMask (m : Mbc) (v : Byte) :
    (m.cellMask v).toNat = if m.variant = .mbc2 then v.toNat % 16 else v.toNat := by
  cases m
  case mbc2 => exact toNat_and_0f v
  all_goals rfl

/-- The registers of a variant at power-on (`spec/10_state.md` R52, R224). -/
theorem Variant.powerOn_registers (v : Variant) :
    (∀ m, v.powerOn = .mbc1 m → m = { ramEnable := false, bank1 := 1, bank2 := 0, mode := false })
      ∧ (∀ m, v.powerOn = .mbc2 m → m = { ramEnable := false, romBank := 1 })
      ∧ (∀ m, v.powerOn = .mbc3 m →
        m.ramEnable = false ∧ m.romBank = 1 ∧ m.sel = 0 ∧ m.latchPrev = 0xFF ∧ m.latched = m.live
          ∧ m.live = { s := 0, m := 0, h := 0, dl := 0, day8 := false, halt := false, carry := false })
      ∧ ∀ m, v.powerOn = .mbc5 m → m.ramEnable = false ∧ m.romBank = 1 ∧ m.ramBank = 0 := by
  refine ⟨?_, ?_, ?_, ?_⟩ <;> intro m h <;> cases v <;> cases h
  · rfl
  · rfl
  · exact ⟨rfl, rfl, rfl, rfl, rfl, rfl⟩
  · exact ⟨rfl, rfl, rfl⟩

/-! ## The load -/

theorem State.loadGame_ok (s : State) {f : RomImage} {c : Cart} (initMem initCartRam : Memory) (h : f.parse = .ok c) :
    s.loadGame (some f) initMem initCartRam = (.loaded, s.loaded c (loadedMemory f c initMem initCartRam)) := by
  rw [State.loadGame, h]

/-- Settles O4: the CPU and the hidden state are those of `State.loaded`, the registers are `busRead_loaded`, the
cartridge is `RomImage.parse_ok` and the memory `loadedMemory_spec`. -/
theorem loadLeavesResetValues : Obligations.LoadLeavesResetValues := by
  intro s f c initMem initCartRam hparse
  obtain ⟨k, ram, hk, hram, hmax, -, hcart⟩ := RomImage.parse_ok hparse
  have hsize : c.ramSize ≤ 131072 := by
    rw [hcart]
    exact hmax.trans k.variant.maxRam_le
  obtain ⟨-, hrom, hcells, hinternal⟩ := loadedMemory_spec f c initMem initCartRam hsize
  obtain ⟨hf, hbc, hde, hhl⟩ := reset_registers
  have hio {a : Addr} {v : Byte} (h : (a, v) ∈ ioResetValues) :=
    s.busRead_loaded c (loadedMemory f c initMem initCartRam) h
  obtain ⟨hm1, hm2, hm3, hm5⟩ := k.variant.powerOn_registers
  refine ⟨_, s.loadGame_ok initMem initCartRam hparse, ?_⟩
  subst hcart
  refine ⟨rfl, hf, hbc, hde, hhl, rfl, rfl, rfl, rfl, rfl, rfl, rfl, ?_⟩
  refine ⟨hio (by decide), hio (by decide), hio (by decide), hio (by decide), hio (by decide), hio (by decide),
    hio (by decide), hio (by decide), hio (by decide), hio (by decide), hio (by decide), hio (by decide),
    hio (by decide), hio (by decide), hio (by decide), hio (by decide), hio (by decide), hio (by decide),
    hio (by decide), rfl, ?_⟩
  refine ⟨rfl, rfl, rfl, rfl, rfl, rfl, rfl, rfl, rfl, rfl, rfl, rfl, rfl, ?_⟩
  refine ⟨rfl, hrom, hinternal, rfl, rfl, rfl,
    ⟨k, hk, k.variant.variant_powerOn, rfl, rfl, rfl, fun hv => ?_, fun hv => ?_⟩, hm1, hm2, hm3, hm5, fun i hi => ?_⟩
  · rw [hv] at hram
    exact (Option.some.inj hram).symm
  · exact (Variant.ramSize_of_ne hv _).symm.trans hram
  · exact (congrArg BitVec.toNat (hcells i hi)).trans (k.variant.powerOn.toNat_cellMask (initCartRam.read i))

end Sys2Proof.Machine
end

section
/-! Where a CPU write goes (`spec/20_memory.md` R101): the regions and the I/O registers by address, the window of
cartridge RAM, the clock edge, the serial port and LCDC in the terms of `Safety.lean`. -/

namespace Sys2Proof.Machine

/-! ## Regions -/

theorem regionOf_echo {a : Addr} (h1 : 0xE000 ≤ a.toNat) (h2 : a.toNat < 0xFE00) : regionOf a = .echo := by
  simp only [regionOf]
  rw [if_neg (by omega), if_neg (by omega), if_neg (by omega), if_neg (by omega), if_pos h2]

theorem regionOf_oam {a : Addr} (h1 : 0xFE00 ≤ a.toNat) (h2 : a.toNat < 0xFEA0) : regionOf a = .oam := by
  simp only [regionOf]
  rw [if_neg (by omega), if_neg (by omega), if_neg (by omega), if_neg (by omega), if_neg (by omega), if_pos h2]

theorem regionOf_unusable {a : Addr} (h1 : 0xFEA0 ≤ a.toNat) (h2 : a.toNat < 0xFF00) : regionOf a = .unusable := by
  simp only [regionOf]
  rw [if_neg (by omega), if_neg (by omega), if_neg (by omega), if_neg (by omega), if_neg (by omega),
    if_neg (by omega), if_pos h2]

theorem regionOf_io {a : Addr} (h1 : 0xFF00 ≤ a.toNat) (h2 : a.toNat < 0xFF80) : regionOf a = .io := by
  simp only [regionOf]
  rw [if_neg (by omega), if_neg (by omega), if_neg (by omega), if_neg (by omega), if_neg (by omega),
    if_neg (by omega), if_neg (by omega), if_pos h2]

theorem regionOf_hram {a : Addr} (h1 : 0xFF80 ≤ a.toNat) (h2 : a.toNat < 0xFFFF) : regionOf a = .hram := by
  simp only [regionOf]
  rw [if_neg (by omega), if_neg (by omega), if_neg (by omega), if_neg (by omega), if_neg (by omega),
    if_neg (by omega), if_neg (by omega), if_neg (by omega), if_pos h2]

/-! ## I/O registers by address (`spec/10_state.md` R44, R117, R118) -/

/-- The addresses of the I/O registers outside the audio range (R44). -/
def ioAddrs : List Addr :=
  [0xFF00, 0xFF01, 0xFF02, 0xFF04, 0xFF05, 0xFF06, 0xFF07, 0xFF0F, 0xFF40, 0xFF41, 0xFF42, 0xFF43, 0xFF44, 0xFF45,
    0xFF46, 0xFF47, 0xFF48, 0xFF49, 0xFF4A, 0xFF4B]

/-- Every other address is of the audio range or has no register. -/
theorem ioRegOf_of_not_mem {a : Addr} (h : a ∉ ioAddrs) :
    ioRegOf a = if 0xFF10 ≤ a.toNat ∧ a.toNat ≤ 0xFF3F then .audio else .unmapped := by
  simp only [ioAddrs, List.mem_cons, List.not_mem_nil, or_false, not_or] at h
  simp only [ioRegOf, h, if_false]

theorem ioRegOf_audio {a : Addr} (h1 : 0xFF10 ≤ a.toNat) (h2 : a.toNat < 0xFF40) : ioRegOf a = .audio := by
  have hout : ∀ c ∈ ioAddrs, ¬(0xFF10 ≤ c.toNat ∧ c.toNat < 0xFF40) := by simp [ioAddrs]
  rw [ioRegOf_of_not_mem fun hm => hout a hm ⟨h1, h2⟩, if_pos ⟨h1, by omega⟩]

/-- The addresses that have no register (R117). -/
def Unlisted (a : Addr) : Prop :=
  a.toNat = 0xFF03 ∨ (0xFF08 ≤ a.toNat ∧ a.toNat < 0xFF0F) ∨ (0xFF4C ≤ a.toNat ∧ a.toNat < 0xFF80)

theorem ioRegOf_unmapped {a : Addr} (h : Unlisted a) : ioRegOf a = .unmapped := by
  have hout : ∀ c ∈ ioAddrs, ¬Unlisted c := by simp [ioAddrs, Unlisted]
  rw [ioRegOf_of_not_mem fun hm => hout a hm h, if_neg]
  unfold Unlisted at h
  omega

/-- A write to an I/O address is a write to its register. -/
theorem State.busWrite_of_io (s : State) {a : Addr} {r : IoReg} (v : Byte) (ha : regionOf a = .io) (hr : ioRegOf a = r) :
    s.busWrite a v = s.ioWrite r v := by
  rw [State.busWrite, ha, ← hr]

/-- A read of an I/O address is a read of its register. -/
theorem State.busRead_of_io (s : State) {a : Addr} {r : IoReg} (ha : regionOf a = .io) (hr : ioRegOf a = r) :
    s.busRead a = s.ioRead r := by
  rw [State.busRead, ha, ← hr]

/-! ## The window of cartridge RAM (`spec/21_cartridge_mbc.md` R203, R210, R216) -/

theorem State.cartRamWrite_closed {s : State} {a : Addr} (v : Byte) (h : s.cart.target a = .closed) :
    s.cartRamWrite a v = s := by
  rw [State.cartRamWrite, h]

theorem State.cartRamWrite_bank {s : State} {a : Addr} {bank : Nat} (v : Byte)
    (h : s.cart.target a = s.cart.ramTarget bank a) : s.cartRamWrite a v = s.ramBankWrite bank a v := by
  unfold State.cartRamWrite State.ramBankWrite
  rw [h, Cart.ramTarget]
  split_ifs <;> rfl

theorem and_0f_eq_mod (v : Byte) : v &&& 0x0F = BitVec.ofNat 8 (v.toNat % 16) := by
  revert v
  decide

theorem State.cartRamWrite_cell {s : State} {a : Addr} {p : Nat} (v : Byte) (h : s.cart.target a = .cell p) :
    s.cartRamWrite a v = s.setByte p (BitVec.ofNat 8 (v.toNat % 16)) := by
  rw [State.cartRamWrite, h, ← and_0f_eq_mod]

theorem State.cartRamWrite_rtc {s : State} {a : Addr} {m : Mbc3} {r : RtcReg} (v : Byte) (hm : s.cart.mbc = .mbc3 m)
    (hr : rtcRegOf m.sel = some r) (h : s.cart.target a = .rtc r) :
    s.cartRamWrite a v =
      { s with cart := { s.cart with mbc := .mbc3 { m with live := m.live.stored m.sel.toNat v } } } := by
  rw [State.cartRamWrite, h, ← Rtc.put_eq_stored m.live v hr]
  simp only [Cart.rtcWrite, hm]

/-- A gate: behind a closed one a write does nothing, behind an open one what `t` says. -/
theorem State.cartRamWrite_gate {s t : State} {a : Addr} {v : Byte} {gate : Bool} {x : CartTarget}
    (h : s.cart.target a = if gate = true then x else .closed) (ht : s.cart.target a = x → s.cartRamWrite a v = t) :
    s.cartRamWrite a v = if gate = true then t else s := by
  by_cases hg : gate = true
  · rw [if_pos hg]
    exact ht (h.trans (if_pos hg))
  · rw [if_neg hg]
    exact State.cartRamWrite_closed v (h.trans (if_neg hg))

/-- MBC3 with its gate open: a RAM bank, a clock register that the cartridge has, or nothing. -/
theorem State.cartRamWrite_mbc3 {s : State} {m : Mbc3} (hm : s.cart.mbc = .mbc3 m) (hg : m.ramEnable = true) (a : Addr)
    (v : Byte) :
    s.cartRamWrite a v =
      if m.sel.toNat < 8 then s.ramBankWrite m.sel.toNat a v
      else if m.sel.toNat < 13 ∧ s.cart.rtc = true then
        { s with cart := { s.cart with mbc := .mbc3 { m with live := m.live.stored m.sel.toNat v } } }
      else s := by
  by_cases hbank : m.sel.toNat < 8
  · rw [if_pos hbank]
    exact State.cartRamWrite_bank v (by simp [Cart.target, hm, hg, hbank])
  · rw [if_neg hbank]
    cases hr : rtcRegOf m.sel with
    | none =>
      have hsel := rtcRegOf_none hr
      rw [if_neg (by omega)]
      exact State.cartRamWrite_closed v (by simp [Cart.target, hm, hg, hbank, hr])
    | some r =>
      by_cases hclock : s.cart.rtc = true
      · rw [if_pos ⟨(rtcRegOf_range hr).2, hclock⟩]
        exact State.cartRamWrite_rtc v hm hr (by simp [Cart.target, hm, hg, hbank, hr, hclock])
      · rw [if_neg fun h => hclock h.2]
        exact State.cartRamWrite_closed v (by simp [Cart.target, hm, hg, hbank, hr, hclock])

/-- A write to the window is what `windowWrite` spells out for each cartridge. -/
theorem State.cartRamWrite_eq_windowWrite (s : State) (a : Addr) (v : Byte) : s.cartRamWrite a v = s.windowWrite a v := by
  cases hm : s.cart.mbc <;> rw [State.windowWrite, hm]
  case romOnly => exact State.cartRamWrite_bank v (by rw [Cart.target, hm])
  case mbc1 m =>
    have ht : s.cart.target a =
        if m.ramEnable = true then s.cart.ramTarget (if m.mode = true then m.bank2.toNat else 0) a else .closed := by
      rw [Cart.target, hm]
    exact State.cartRamWrite_gate ht (State.cartRamWrite_bank v)
  case mbc2 m =>
    have ht : s.cart.target a = if m.ramEnable = true then .cell (cartRamBase + a.toNat % 512) else .closed := by
      rw [Cart.target, hm]
    exact State.cartRamWrite_gate ht (State.cartRamWrite_cell v)
  case mbc3 m =>
    by_cases hg : m.ramEnable = true
    · exact (State.cartRamWrite_mbc3 hm hg a v).trans (if_pos hg).symm
    · exact (State.cartRamWrite_closed v (by simp [Cart.target, hm, hg])).trans (if_neg hg).symm
  case mbc5 m =>
    have ht : s.cart.target a = if m.ramEnable = true then s.cart.ramTarget m.ramBank.toNat a else .closed := by
      rw [Cart.target, hm]
    exact State.cartRamWrite_gate ht (State.cartRamWrite_bank v)

/-! ## The timer (`spec/60_exceptions.md` R620, R621, R624) -/

theorem State.clearCounter_eq (s : State) : s.clearCounter = s.timerWritten 0 s.timer.tac false := by
  have hlow : (0 : BitVec 16).getLsbD (tacBit s.timer.tac) = false := BitVec.getLsbD_zero
  have h := s.timerEdge_eq_timerWritten 0 s.timer.tac
  rwa [hlow, Bool.and_false] at h

theorem setWidth3_eq_mod (v : Byte) : v.setWidth 3 = BitVec.ofNat 3 (v.toNat % 8) := by
  apply BitVec.eq_of_toNat_eq
  simp

theorem tacBit_setWidth3 (v : Byte) : tacBit (v.setWidth 3) = timerBit v.toNat := by
  revert v
  decide

theorem State.writeTac_eq (s : State) (v : Byte) :
    s.writeTac v =
      s.timerWritten s.timer.counter (BitVec.ofNat 3 (v.toNat % 8))
        (v.getLsbD 2 && s.timer.counter.getLsbD (timerBit v.toNat)) := by
  have hen : (v.setWidth 3).getLsbD 2 = v.getLsbD 2 := by simp
  have h := s.timerEdge_eq_timerWritten s.timer.counter (v.setWidth 3)
  rw [hen, tacBit_setWidth3] at h
  rw [← setWidth3_eq_mod]
  exact h

/-! ## The serial port and LCDC (R627, `spec/62_ppu.md` R670, R671) -/

theorem Serial.writeSc_eq (p : Serial) (v : Byte) :
    p.writeSc v =
      if v.getLsbD 7 = true ∧ v.getLsbD 0 = true then
        { sb := p.sb, transfer := true, internalClock := true, bits := 0, clock := 0 }
      else { p with transfer := v.getLsbD 7, internalClock := v.getLsbD 0 } := by
  unfold Serial.writeSc
  cases v.getLsbD 7 <;> cases v.getLsbD 0 <;> rfl

theorem Ppu.writeLcdc_eq (p : Ppu) (v : Byte) :
    p.writeLcdc v =
      if p.lcdc.getLsbD 7 = true ∧ v.getLsbD 7 = false then
        { p with lcdc := v, ly := 0, dot := 0, mode := .hBlank, statLine := false }
      else if p.lcdc.getLsbD 7 = false ∧ v.getLsbD 7 = true then
        { p with lcdc := v, ly := 0, dot := 0, mode := .oamScan, windowLine := 0 }
      else { p with lcdc := v } := by
  unfold Ppu.writeLcdc Ppu.lcdOn
  cases p.lcdc.getLsbD 7 <;> cases v.getLsbD 7 <;> rfl

/-! ## The writable bits of P1, IF and STAT (R45) -/

theorem p1Select_eq_div (v : Byte) : v.extractLsb' 4 2 = BitVec.ofNat 2 (v.toNat / 16 % 4) := by
  revert v
  decide

theorem setWidth5_eq_mod (v : Byte) : v.setWidth 5 = BitVec.ofNat 5 (v.toNat % 32) := by
  revert v
  decide

theorem statSelect_eq_div (v : Byte) : v.extractLsb' 3 4 = BitVec.ofNat 4 (v.toNat / 8 % 16) := by
  revert v
  decide

/-! ## The PPU's gates (R110, R111) -/

theorem Ppu.vramBlocked_iff (p : Ppu) : p.vramBlocked = true ↔ p.lcdOn = true ∧ p.mode = .drawing := by
  rw [Ppu.vramBlocked, Bool.and_eq_true, decide_eq_true_eq]

theorem Ppu.oamBlocked_iff (p : Ppu) :
    p.oamBlocked = true ↔ p.lcdOn = true ∧ (p.mode = .oamScan ∨ p.mode = .drawing) := by
  rw [Ppu.oamBlocked, Bool.and_eq_true, Bool.or_eq_true, decide_eq_true_eq, decide_eq_true_eq]

/-! ## Writes that change nothing -/

/-- Where a write changes nothing: FEA0 to FEFF, the audio range (R115, R118). -/
theorem State.busWrite_ignored (s : State) {a : Addr} (v : Byte)
    (h : (0xFEA0 ≤ a.toNat ∧ a.toNat < 0xFF00) ∨ (0xFF10 ≤ a.toNat ∧ a.toNat < 0xFF40)) : s.busWrite a v = s := by
  rcases h with ⟨h1, h2⟩ | ⟨h1, h2⟩
  · rw [State.busWrite, regionOf_unusable h1 h2]
  · rw [s.busWrite_of_io v (regionOf_io (by omega) (by omega)) (ioRegOf_audio h1 h2)]
    rfl

/-- Where a write changes nothing: the I/O addresses without a register (R117). -/
theorem State.busWrite_unlisted (s : State) {a : Addr} (v : Byte) (h : Unlisted a) : s.busWrite a v = s := by
  have hr := ioRegOf_unmapped h
  unfold Unlisted at h
  rw [s.busWrite_of_io v (regionOf_io (by omega) (by omega)) hr]
  rfl

/-! ## OAM DMA -/

/-- FF46 changes the memory and the DMA unit, and the record that the step wrote it (R130). -/
theorem State.busWrite_ff46 (s : State) (v : Byte) :
    s.busWrite 0xFF46 v =
      { s with
        mem := (s.busWrite 0xFF46 v).mem
        dma := { reg := v, remaining := 640 }
        info := { s.info with dmaWritten := true } } := by
  obtain ⟨m, hm, -⟩ := s.startDma_spec v
  have hb : s.busWrite 0xFF46 v = s.startDma v := rfl
  rw [hb, hm]

/-- Settles O46: each region by its `regionOf` lemma, each register by the equation of its write. -/
theorem busWritesByRegion : Obligations.BusWritesByRegion := by
  intro s a v
  refine ⟨fun h => ?_, fun h1 h2 => ?_, fun h1 h2 => ?_, fun h1 h2 => ?_, fun h1 h2 => ?_, fun h1 h2 => ?_,
    s.busWrite_ignored v, ?_, fun h1 h2 => ?_, ?_, fun t ht => ?_, ?_, ?_, ?_, ?_, ?_⟩
  · rw [State.busWrite, regionOf_rom h]
  · rw [State.busWrite, regionOf_vram h1 h2]
    exact if_congr s.ppu.vramBlocked_iff rfl rfl
  · rw [State.busWrite, regionOf_cartRam h1 h2]
    exact s.cartRamWrite_eq_windowWrite a v
  · rw [State.busWrite, regionOf_wram h1 h2]
  · rw [State.busWrite, regionOf_echo h1 h2]
  · rw [State.busWrite, regionOf_oam h1 h2]
    exact if_congr s.ppu.oamBlocked_iff rfl rfl
  · rintro (rfl | rfl | h)
    · exact s.busWrite_unlisted v (.inl rfl)
    · rfl
    · exact s.busWrite_unlisted v (.inr h)
  · rw [State.busWrite, regionOf_hram h1 h2]
  · rintro rfl
    rfl
  · rw [← p1Select_eq_div, ← setWidth5_eq_mod, ← statSelect_eq_div] at ht
    simp only [List.mem_cons, List.not_mem_nil, or_false, Prod.mk.injEq] at ht
    rcases ht with ⟨rfl, rfl⟩ | ⟨rfl, rfl⟩ | ⟨rfl, rfl⟩ | ⟨rfl, rfl⟩ | ⟨rfl, rfl⟩ | ⟨rfl, rfl⟩ | ⟨rfl, rfl⟩
      | ⟨rfl, rfl⟩ | ⟨rfl, rfl⟩ | ⟨rfl, rfl⟩ | ⟨rfl, rfl⟩ | ⟨rfl, rfl⟩ | ⟨rfl, rfl⟩ | ⟨rfl, rfl⟩ <;> rfl
  · rintro rfl
    exact congrArg (fun p => ({ s with serial := p } : State)) (s.serial.writeSc_eq v)
  · rintro rfl
    exact s.clearCounter_eq
  · rintro rfl
    exact s.writeTac_eq v
  · rintro rfl
    exact congrArg (fun p => ({ s with ppu := p } : State)) (s.ppu.writeLcdc_eq v)
  · rintro rfl
    exact s.busWrite_ff46 v

end Sys2Proof.Machine
end

section
/-! What an I/O register reads right after a write (`spec/10_state.md` R45). -/

namespace Sys2Proof.Machine

/-- What a read of an I/O address gives after a write to it is its register's affair. -/
theorem State.readBack_of_io (s : State) {a : Addr} {r : IoReg} (v : Byte) (ha : regionOf a = .io) (hr : ioRegOf a = r) :
    ((s.busWrite a v).busRead a).1 = ((s.ioWrite r v).ioRead r).1 := by
  rw [s.busWrite_of_io v ha hr, State.busRead_of_io _ ha hr]

/-! ## The registers with eight writable bits -/

/-- The registers that read back every bit of a write. -/
def plainRegs : List IoReg := [.sb, .tima, .tma, .lcdc, .scy, .scx, .lyc, .dma, .bgp, .obp0, .obp1, .wy, .wx]

theorem Ppu.lcdc_writeLcdc (p : Ppu) (v : Byte) : (p.writeLcdc v).lcdc = v := by
  unfold Ppu.writeLcdc
  split_ifs <;> rfl

theorem State.readBack_plain (s : State) (v : Byte) {r : IoReg} (h : r ∈ plainRegs) :
    ((s.ioWrite r v).ioRead r).1 = v := by
  cases r
  case lcdc => exact s.ppu.lcdc_writeLcdc v
  case p1 | sc | div | tac | iflag | audio | stat | ly | unmapped => exact absurd h (by decide)
  all_goals rfl

/-- The addresses of the plain registers. -/
def plainAddrs : List Addr :=
  [0xFF01, 0xFF05, 0xFF06, 0xFF40, 0xFF42, 0xFF43, 0xFF45, 0xFF46, 0xFF47, 0xFF48, 0xFF49, 0xFF4A, 0xFF4B]

theorem plainAddrs_route : ∀ a ∈ plainAddrs, regionOf a = .io ∧ ioRegOf a ∈ plainRegs := by
  simp [plainAddrs, plainRegs, regionOf, ioRegOf]

theorem State.busRead_busWrite_plain (s : State) (v : Byte) {a : Addr} (h : a ∈ plainAddrs) :
    ((s.busWrite a v).busRead a).1 = v := by
  obtain ⟨hio, hreg⟩ := plainAddrs_route a h
  rw [s.readBack_of_io v hio rfl, s.readBack_plain v hreg]

/-! ## P1 (`spec/60_exceptions.md` R630) -/

theorem getLsbD_fourBits : ∀ d c b a : Bool,
    (BitVec.ofBool d ++ BitVec.ofBool c ++ BitVec.ofBool b ++ BitVec.ofBool a).getLsbD 0 = a
      ∧ (BitVec.ofBool d ++ BitVec.ofBool c ++ BitVec.ofBool b ++ BitVec.ofBool a).getLsbD 1 = b
      ∧ (BitVec.ofBool d ++ BitVec.ofBool c ++ BitVec.ofBool b ++ BitVec.ofBool a).getLsbD 2 = c
      ∧ (BitVec.ofBool d ++ BitVec.ofBool c ++ BitVec.ofBool b ++ BitVec.ofBool a).getLsbD 3 = d := by decide

/-- A key pulls its line low when its group is selected. -/
theorem Joypad.getLsbD_lines (j : Joypad) :
    j.lines.getLsbD 0 = !((!j.sel.getLsbD 0 && j.keys.right) || (!j.sel.getLsbD 1 && j.keys.a))
      ∧ j.lines.getLsbD 1 = !((!j.sel.getLsbD 0 && j.keys.left) || (!j.sel.getLsbD 1 && j.keys.b))
      ∧ j.lines.getLsbD 2 = !((!j.sel.getLsbD 0 && j.keys.up) || (!j.sel.getLsbD 1 && j.keys.select))
      ∧ j.lines.getLsbD 3 = !((!j.sel.getLsbD 0 && j.keys.down) || (!j.sel.getLsbD 1 && j.keys.start)) :=
  getLsbD_fourBits _ _ _ _

theorem Joypad.p1Read_high (j : Joypad) : j.p1Read &&& (0xF0 : Byte) = j.sel.setWidth 8 <<< 4 ||| (0xC0 : Byte) := by
  unfold Joypad.p1Read
  generalize j.lines = l
  generalize j.sel = q
  revert q l
  decide

theorem p1Select_shifted (v : Byte) : (v.extractLsb' 4 2).setWidth 8 <<< 4 = v &&& 0x30 := by
  revert v
  decide

theorem Joypad.getLsbD_p1Read (j : Joypad) {k : Nat} (h : k < 4) : j.p1Read.getLsbD k = j.lines.getLsbD k := by
  unfold Joypad.p1Read
  generalize j.lines = l
  interval_cases k <;> simp

/-! ## SC, TAC, IF and STAT: the bits that read 1 -/

theorem scBits (v : Byte) : 0x7E ||| bit0 (v.getLsbD 7) <<< 7 ||| bit0 (v.getLsbD 0) = v ||| 0x7E := by
  revert v
  decide

theorem Serial.scRead_writeSc (p : Serial) (v : Byte) : (p.writeSc v).scRead = v ||| 0x7E := by
  have hbits : (p.writeSc v).transfer = v.getLsbD 7 ∧ (p.writeSc v).internalClock = v.getLsbD 0 := by
    unfold Serial.writeSc
    dsimp only
    split_ifs <;> exact ⟨rfl, rfl⟩
  rw [Serial.scRead, hbits.1, hbits.2, scBits]

theorem tacBits (v : Byte) : 0xF8 ||| (v.setWidth 3).setWidth 8 = v ||| 0xF8 := by
  revert v
  decide

theorem ifBits (v : Byte) : 0xE0 ||| (v.setWidth 5).setWidth 8 = v ||| 0xE0 := by
  revert v
  decide

/-- The bits of STAT that a write does not reach: bit 7, the coincidence and the mode (R662). -/
def Ppu.statDevice (p : Ppu) : Byte :=
  0x80 ||| (if p.lyRead = p.lyc then 0x04 else 0) ||| BitVec.ofNat 8 (if p.lcdOn then p.mode.num else 0)

theorem Ppu.statRead_eq (p : Ppu) : p.statRead = p.statSel.setWidth 8 <<< 3 ||| p.statDevice := by
  have h : p.statRead = (0x80 : Byte) ||| p.statSel.setWidth 8 <<< 3 ||| (if p.lyRead = p.lyc then 0x04 else 0)
      ||| BitVec.ofNat 8 (if p.lcdOn then p.mode.num else 0) := rfl
  rw [h, Ppu.statDevice]
  ac_rfl

theorem Ppu.statDevice_masked (p : Ppu) : p.statDevice &&& 0x87 = p.statDevice := by
  unfold Ppu.statDevice
  cases p.mode <;> split_ifs <;> rfl

theorem statSelect_masked : ∀ q : BitVec 4, (q.setWidth 8 <<< 3 : Byte) &&& 0x87 = 0 := by decide

theorem statSelect_shifted (v : Byte) : (v.extractLsb' 3 4).setWidth 8 <<< 3 = v &&& 0x78 := by
  revert v
  decide

theorem Ppu.statRead_masked (p : Ppu) : p.statRead &&& 0x87 = p.statDevice := by
  rw [p.statRead_eq, BitVec.and_or_distrib_right, statSelect_masked, p.statDevice_masked]
  exact BitVec.zero_or

/-! ## The clock edge keeps what was written to the timer -/

theorem State.counter_clearCounter (s : State) : s.clearCounter.timer.counter = 0 := by
  rw [s.clearCounter_eq]
  rfl

theorem State.tac_writeTac (s : State) (v : Byte) : (s.writeTac v).timer.tac = v.setWidth 3 := by
  rw [s.writeTac_eq, setWidth3_eq_mod]
  rfl

/-! ## The registers with bits of their own -/

theorem State.readBack_p1 (s : State) (v : Byte) : ((s.ioWrite .p1 v).ioRead .p1).1 &&& 0xF0 = (v &&& 0x30) ||| 0xC0 := by
  show ({ s.joypad with sel := v.extractLsb' 4 2 } : Joypad).p1Read &&& 0xF0 = _
  rw [Joypad.p1Read_high, p1Select_shifted]

/-- The lines of P1 under the groups that the written byte selects. -/
theorem State.readBack_p1_lines (s : State) (v : Byte) {k : Nat} {dir act : Key}
    (h : (k, dir, act) ∈ [(0, Key.right, Key.a), (1, .left, .b), (2, .up, .select), (3, .down, .start)]) :
    ((s.ioWrite .p1 v).ioRead .p1).1.getLsbD k =
      !((!v.getLsbD 4 && s.isKeyPressed dir) || (!v.getLsbD 5 && s.isKeyPressed act)) := by
  have hk : k < 4 := by
    simp only [List.mem_cons, Prod.mk.injEq, List.not_mem_nil, or_false] at h
    omega
  have h4 : (v.extractLsb' 4 2).getLsbD 0 = v.getLsbD 4 := by simp
  have h5 : (v.extractLsb' 4 2).getLsbD 1 = v.getLsbD 5 := by simp
  obtain ⟨l0, l1, l2, l3⟩ := ({ s.joypad with sel := v.extractLsb' 4 2 } : Joypad).getLsbD_lines
  dsimp only at l0 l1 l2 l3
  rw [h4, h5] at l0 l1 l2 l3
  show ({ s.joypad with sel := v.extractLsb' 4 2 } : Joypad).p1Read.getLsbD k = _
  rw [Joypad.getLsbD_p1Read _ hk]
  simp only [List.mem_cons, Prod.mk.injEq, List.not_mem_nil, or_false] at h
  rcases h with ⟨rfl, rfl, rfl⟩ | ⟨rfl, rfl, rfl⟩ | ⟨rfl, rfl, rfl⟩ | ⟨rfl, rfl, rfl⟩
  · exact l0
  · exact l1
  · exact l2
  · exact l3

theorem State.readBack_div (s : State) (v : Byte) : ((s.ioWrite .div v).ioRead .div).1 = 0 := by
  show hiByte s.clearCounter.timer.counter = 0
  rw [s.counter_clearCounter]
  rfl

theorem State.readBack_tac (s : State) (v : Byte) : ((s.ioWrite .tac v).ioRead .tac).1 = v ||| 0xF8 := by
  show 0xF8 ||| (s.writeTac v).timer.tac.setWidth 8 = _
  rw [s.tac_writeTac, tacBits]

theorem State.readBack_stat (s : State) (v : Byte) :
    ((s.ioWrite .stat v).ioRead .stat).1 = (v &&& 0x78) ||| ((s.ioRead .stat).1 &&& 0x87) := by
  show ({ s.ppu with statSel := v.extractLsb' 3 4 } : Ppu).statRead = (v &&& 0x78) ||| (s.ppu.statRead &&& 0x87)
  rw [Ppu.statRead_masked, Ppu.statRead_eq, statSelect_shifted]
  rfl

/-- Settles O47: each register by its `readBack` lemma, at its address. -/
theorem ioRegistersReadBackTheirWritableBits : Obligations.IoRegistersReadBackTheirWritableBits := by
  intro s v
  refine ⟨fun a ha => ?_, ?_, fun k dir act h => ?_, s.serial.scRead_writeSc v, s.readBack_div v, s.readBack_tac v,
    ifBits v, s.readBack_stat v, rfl⟩
  · by_cases hie : a = 0xFFFF
    · subst hie
      rfl
    · refine s.busRead_busWrite_plain v ?_
      simp only [plainAddrs, List.mem_cons, List.not_mem_nil, hie, or_false] at ha ⊢
      exact ha
  · exact s.readBack_p1 v
  · exact s.readBack_p1_lines v h

end Sys2Proof.Machine
end

section
/-! What a CPU read gives where OAM DMA does not hold the address (`spec/20_memory.md` R101): the window of cartridge RAM
and the device registers in the terms of `Safety.lean`. -/

namespace Sys2Proof.Machine

/-! ## Where OAM DMA holds the bus (R119) -/

theorem State.dmaHolds_iff (s : State) (a : Addr) :
    s.dmaHolds a = true ↔ 0 < s.dma.remaining ∧ a.toNat < 0xFF00 := by
  rw [State.dmaHolds, Bool.and_eq_true, decide_eq_true_eq, decide_eq_true_eq]

theorem State.memRead_of_held {s : State} {a : Addr} (h : s.dmaHolds a = true) : s.memRead a = s.draw := by
  rw [State.memRead, if_pos h]

theorem State.memRead_of_free {s : State} {a : Addr} (h : s.dmaHolds a = false) : s.memRead a = s.busRead a := by
  rw [State.memRead, if_neg (Bool.not_eq_true _ ▸ h)]

/-! ## The window of cartridge RAM (`spec/21_cartridge_mbc.md` R202, R210, R215) -/

theorem State.cartRamRead_closed {s : State} {a : Addr} (h : s.cart.target a = .closed) : s.cartRamRead a = 0xFF := by
  rw [State.cartRamRead, h]

theorem State.cartRamRead_bank {s : State} {a : Addr} {bank : Nat} (h : s.cart.target a = s.cart.ramTarget bank a) :
    s.cartRamRead a = s.ramBankRead bank a := by
  unfold State.cartRamRead State.ramBankRead
  rw [h, Cart.ramTarget]
  split_ifs <;> rfl

theorem cellByte_eq_mod (v : Byte) : 0xF0 ||| (v &&& 0x0F) = BitVec.ofNat 8 (0xF0 + v.toNat % 16) := by
  revert v
  decide

theorem State.cartRamRead_cell {s : State} {a : Addr} {p : Nat} (h : s.cart.target a = .cell p) :
    s.cartRamRead a = BitVec.ofNat 8 (0xF0 + (s.byteAt p).toNat % 16) := by
  rw [State.cartRamRead, h, ← cellByte_eq_mod]

theorem State.cartRamRead_rtc {s : State} {a : Addr} {m : Mbc3} {r : RtcReg} (hm : s.cart.mbc = .mbc3 m)
    (hr : rtcRegOf m.sel = some r) (h : s.cart.target a = .rtc r) :
    s.cartRamRead a = BitVec.ofNat 8 (m.latched.number m.sel.toNat) := by
  rw [State.cartRamRead, h, ← Rtc.get_eq_number m.latched hr]
  simp only [Cart.rtcRead, hm]

/-- A gate: behind a closed one a read gives FF, behind an open one what `x` says. -/
theorem State.cartRamRead_gate {s : State} {a : Addr} {x : Byte} {gate : Bool} {y : CartTarget}
    (h : s.cart.target a = if gate = true then y else .closed) (hx : s.cart.target a = y → s.cartRamRead a = x) :
    s.cartRamRead a = if gate = true then x else 0xFF := by
  by_cases hg : gate = true
  · rw [if_pos hg]
    exact hx (h.trans (if_pos hg))
  · rw [if_neg hg]
    exact State.cartRamRead_closed (h.trans (if_neg hg))

/-- MBC3 with its gate open: a RAM bank, a clock register that the cartridge has, or nothing. -/
theorem State.cartRamRead_mbc3 {s : State} {m : Mbc3} (hm : s.cart.mbc = .mbc3 m) (hg : m.ramEnable = true) (a : Addr) :
    s.cartRamRead a =
      if m.sel.toNat < 8 then s.ramBankRead m.sel.toNat a
      else if m.sel.toNat < 13 ∧ s.cart.rtc = true then BitVec.ofNat 8 (m.latched.number m.sel.toNat)
      else 0xFF := by
  by_cases hbank : m.sel.toNat < 8
  · rw [if_pos hbank]
    exact State.cartRamRead_bank (by simp [Cart.target, hm, hg, hbank])
  · rw [if_neg hbank]
    cases hr : rtcRegOf m.sel with
    | none =>
      have hsel := rtcRegOf_none hr
      rw [if_neg (by omega)]
      exact State.cartRamRead_closed (by simp [Cart.target, hm, hg, hbank, hr])
    | some r =>
      by_cases hclock : s.cart.rtc = true
      · rw [if_pos ⟨(rtcRegOf_range hr).2, hclock⟩]
        exact State.cartRamRead_rtc hm hr (by simp [Cart.target, hm, hg, hbank, hr, hclock])
      · rw [if_neg fun h => hclock h.2]
        exact State.cartRamRead_closed (by simp [Cart.target, hm, hg, hbank, hr, hclock])

/-- A read of the window is what `windowRead` spells out for each cartridge. -/
theorem State.cartRamRead_eq_windowRead (s : State) (a : Addr) : s.cartRamRead a = s.windowRead a := by
  cases hm : s.cart.mbc <;> rw [State.windowRead, hm]
  case romOnly => exact State.cartRamRead_bank (by rw [Cart.target, hm])
  case mbc1 m =>
    have ht : s.cart.target a =
        if m.ramEnable = true then s.cart.ramTarget (if m.mode = true then m.bank2.toNat else 0) a else .closed := by
      rw [Cart.target, hm]
    exact State.cartRamRead_gate ht State.cartRamRead_bank
  case mbc2 m =>
    have ht : s.cart.target a = if m.ramEnable = true then .cell (cartRamBase + a.toNat % 512) else .closed := by
      rw [Cart.target, hm]
    exact State.cartRamRead_gate ht State.cartRamRead_cell
  case mbc3 m =>
    by_cases hg : m.ramEnable = true
    · exact (State.cartRamRead_mbc3 hm hg a).trans (if_pos hg).symm
    · exact (State.cartRamRead_closed (by simp [Cart.target, hm, hg])).trans (if_neg hg).symm
  case mbc5 m =>
    have ht : s.cart.target a = if m.ramEnable = true then s.cart.ramTarget m.ramBank.toNat a else .closed := by
      rw [Cart.target, hm]
    exact State.cartRamRead_gate ht State.cartRamRead_bank

/-! ## The registers with bits of their own (`spec/10_state.md` R44, R45) -/

theorem Joypad.p1Read_eq_add (j : Joypad) : j.p1Read = BitVec.ofNat 8 (0xC0 + 16 * j.sel.toNat + j.lines.toNat) := by
  unfold Joypad.p1Read
  generalize j.lines = l
  generalize j.sel = q
  revert q l
  decide

theorem Serial.scRead_eq_add (p : Serial) :
    p.scRead = BitVec.ofNat 8 (0x7E + 128 * bitNat p.transfer + bitNat p.internalClock) := by
  unfold Serial.scRead
  cases p.transfer <;> cases p.internalClock <;> rfl

theorem hiByte_eq_div (v : Addr) : hiByte v = BitVec.ofNat 8 (v.toNat / 256) := by
  apply BitVec.eq_of_toNat_eq
  rw [toNat_hiByte, BitVec.toNat_ofNat]
  omega

theorem tacRead_eq_add (t : BitVec 3) : 0xF8 ||| t.setWidth 8 = BitVec.ofNat 8 (0xF8 + t.toNat) := by
  revert t
  decide

theorem ifRead_eq_add (q : BitVec 5) : 0xE0 ||| q.setWidth 8 = BitVec.ofNat 8 (0xE0 + q.toNat) := by
  revert q
  decide

theorem statByte_eq_add (q : BitVec 4) (coincidence : Bool) {m : Nat} (hm : m < 4) :
    q.setWidth 8 <<< 3 ||| ((0x80 : Byte) ||| (if coincidence = true then 0x04 else 0) ||| BitVec.ofNat 8 m) =
      BitVec.ofNat 8 (0x80 + 8 * q.toNat + 4 * bitNat coincidence + m) := by
  revert q
  interval_cases m <;> cases coincidence <;> decide

theorem modeNumber_eq_num (m : PpuMode) : modeNumber m = m.num := by cases m <;> rfl

theorem PpuMode.num_lt_four (m : PpuMode) : m.num < 4 := by cases m <;> decide

/-- While the LCD is off the line is 0 (R670), so LY reads as the line always. -/
theorem Ppu.Inv.lyRead_eq {p : Ppu} (h : p.Inv) : p.lyRead = p.ly := by
  rw [Ppu.lyRead]
  split_ifs with hon
  · rfl
  · exact (h.off (Bool.eq_false_iff.mpr hon)).1.symm

theorem Ppu.Inv.statRead_eq_add {p : Ppu} (h : p.Inv) :
    p.statRead =
      BitVec.ofNat 8 (0x80 + 8 * p.statSel.toNat + 4 * bitNat (decide (p.ly = p.lyc))
        + if p.lcdc.getLsbD 7 = true then modeNumber p.mode else 0) := by
  have hmode : (if p.lcdc.getLsbD 7 = true then modeNumber p.mode else 0) < 4 := by
    rw [modeNumber_eq_num]
    have := p.mode.num_lt_four
    split_ifs <;> omega
  rw [← statByte_eq_add _ _ hmode, p.statRead_eq, Ppu.statDevice, h.lyRead_eq, modeNumber_eq_num, Ppu.lcdOn]
  simp only [decide_eq_true_eq]

/-! ## Reads that no byte of memory answers -/

/-- Where a read is a draw: FEA0 to FEFF, the audio range (R115, R118). -/
theorem State.busRead_drawn (s : State) {a : Addr}
    (h : (0xFEA0 ≤ a.toNat ∧ a.toNat < 0xFF00) ∨ (0xFF10 ≤ a.toNat ∧ a.toNat < 0xFF40)) : s.busRead a = s.draw := by
  rcases h with ⟨h1, h2⟩ | ⟨h1, h2⟩
  · rw [State.busRead, regionOf_unusable h1 h2]
  · rw [s.busRead_of_io (regionOf_io (by omega) (by omega)) (ioRegOf_audio h1 h2)]
    rfl

/-- The I/O addresses without a register read FF (R117). -/
theorem State.busRead_unlisted (s : State) {a : Addr} (h : Unlisted a) : s.busRead a = (0xFF, s) := by
  have hr := ioRegOf_unmapped h
  unfold Unlisted at h
  rw [s.busRead_of_io (regionOf_io (by omega) (by omega)) hr]
  rfl

/-- Settles O45: each region by its `regionOf` lemma, each register by the equation of what it reads. -/
theorem busReadsByRegion : Obligations.BusReadsByRegion := by
  intro s a hfree
  rw [State.memRead_of_free hfree]
  refine ⟨fun h => ?_, fun h1 h2 => ?_, fun h1 h2 => ?_, fun h1 h2 => ?_, fun h1 h2 => ?_, fun h1 h2 => ?_,
    s.busRead_drawn, ?_, fun h1 h2 => ?_, ?_, fun v hv => ?_, ?_, ?_, ?_, ?_, ?_, ?_, ?_⟩
  · rw [State.busRead, regionOf_rom h]
    rfl
  · rw [State.busRead, regionOf_vram h1 h2]
    exact congrArg (·, s) (if_congr s.ppu.vramBlocked_iff rfl rfl)
  · rw [State.busRead, regionOf_cartRam h1 h2]
    exact congrArg (·, s) (s.cartRamRead_eq_windowRead a)
  · rw [State.busRead, regionOf_wram h1 h2]
  · rw [State.busRead, regionOf_echo h1 h2]
  · rw [State.busRead, regionOf_oam h1 h2]
    exact congrArg (·, s) (if_congr s.ppu.oamBlocked_iff rfl rfl)
  · rintro (rfl | h)
    · exact s.busRead_unlisted (.inl rfl)
    · exact s.busRead_unlisted (.inr h)
  · rw [State.busRead, regionOf_hram h1 h2]
  · rintro rfl
    rfl
  · simp only [List.mem_cons, List.not_mem_nil, or_false, Prod.mk.injEq] at hv
    rcases hv with ⟨rfl, rfl⟩ | ⟨rfl, rfl⟩ | ⟨rfl, rfl⟩ | ⟨rfl, rfl⟩ | ⟨rfl, rfl⟩ | ⟨rfl, rfl⟩ | ⟨rfl, rfl⟩
      | ⟨rfl, rfl⟩ | ⟨rfl, rfl⟩ | ⟨rfl, rfl⟩ | ⟨rfl, rfl⟩ | ⟨rfl, rfl⟩ | ⟨rfl, rfl⟩ <;> rfl
  · rintro rfl
    exact congrArg (·, s) s.joypad.p1Read_eq_add
  · rintro rfl
    exact congrArg (·, s) s.serial.scRead_eq_add
  · rintro rfl
    exact congrArg (·, s) (hiByte_eq_div s.timer.counter)
  · rintro rfl
    exact congrArg (·, s) (tacRead_eq_add s.timer.tac)
  · rintro rfl
    exact congrArg (·, s) (ifRead_eq_add s.irq.req)
  · rintro rfl
    rfl
  · rintro rfl hinv
    exact congrArg (·, s) hinv.statRead_eq_add

end Sys2Proof.Machine
end

section
/-! The bytes of WRAM and HRAM under the addresses that name them (`spec/20_memory.md` R112 to R114, R141). -/

namespace Sys2Proof.Machine

/-- The byte that an address names is at that address, or 0x2000 below it in the echo. -/
theorem ramPlace_cases {a : Addr} {p : Nat} (h : ramPlace a = some p) :
    (regionOf a = .wram ∧ p = a.toNat) ∨ (regionOf a = .echo ∧ p = a.toNat - 0x2000)
      ∨ (regionOf a = .hram ∧ p = a.toNat) := by
  unfold ramPlace at h
  split_ifs at h with hw he hh
  · exact .inl ⟨regionOf_wram hw.1 hw.2, (Option.some.inj h).symm⟩
  · exact .inr (.inl ⟨regionOf_echo he.1 he.2, (Option.some.inj h).symm⟩)
  · exact .inr (.inr ⟨regionOf_hram hh.1 hh.2, (Option.some.inj h).symm⟩)

theorem ne_ff46_of_ramPlace {a : Addr} {p : Nat} (h : ramPlace a = some p) : a ≠ 0xFF46 := by
  rintro rfl
  cases h

/-- A CPU write to such an address stores the byte itself, there. -/
theorem State.storeAddr_of_ramPlace (s : State) {a : Addr} {p : Nat} (v : Byte) (h : ramPlace a = some p) :
    s.storeAddr a = some p ∧ s.storedByte a v = v := by
  unfold State.storeAddr State.storedByte
  rcases ramPlace_cases h with ⟨hr, hp⟩ | ⟨hr, hp⟩ | ⟨hr, hp⟩ <;> rw [hr, hp] <;> exact ⟨rfl, rfl⟩

/-- A CPU read of such an address gives the byte. -/
theorem State.busRead_of_ramPlace (s : State) {a : Addr} {p : Nat} (h : ramPlace a = some p) :
    s.busRead a = (s.byteAt p, s) := by
  unfold State.busRead
  rcases ramPlace_cases h with ⟨hr, hp⟩ | ⟨hr, hp⟩ | ⟨hr, hp⟩ <;> rw [hr, hp]

/-- The byte named holds what was written; every other byte of memory is as before. -/
theorem State.byteAt_busWrite_ramPlace (s : State) {a : Addr} {p : Nat} (v : Byte) (q : Nat) (hwf : s.mem.wf = true)
    (h : ramPlace a = some p) : (s.busWrite a v).byteAt q = if q = p then v else s.byteAt q := by
  obtain ⟨haddr, hbyte⟩ := s.storeAddr_of_ramPlace v h
  by_cases hq : q = p
  · rw [if_pos hq, hq, s.byteAt_busWrite_same a v hwf p haddr, hbyte]
  · rw [if_neg hq]
    refine s.byteAt_busWrite_other a v hwf q (fun hs => hq ?_) fun hd => ne_ff46_of_ramPlace h hd.1
    exact (Option.some.inj (haddr.symm.trans hs)).symm

/-- Settles O15: the write stores at the place of its address, the read reads at the place of its own. -/
theorem readGivesLastByteWritten : Obligations.ReadGivesLastByteWritten := by
  intro s a b v p q hwf hfree ha hb
  have hfree' : (s.busWrite a v).dmaHolds b = false :=
    (State.dmaHolds_congr (s.dma_busWrite a v (ne_ff46_of_ramPlace ha)) b).trans hfree
  refine ⟨s.wf_busWrite a v hwf, ?_⟩
  rw [State.memRead_of_free hfree', State.memRead_of_free hfree, State.busRead_of_ramPlace _ hb,
    State.busRead_of_ramPlace _ hb]
  exact s.byteAt_busWrite_ramPlace v q hwf ha

end Sys2Proof.Machine
end

section
/-! OAM DMA (`spec/20_memory.md` R119 to R121, R130, R131): where the copy reads, what it leaves in OAM, and how long it
holds the bus. -/

namespace Sys2Proof.Machine

/-! ## The source of the copy (R131) -/

theorem State.dmaSourceLow_eq (s : State) {a : Addr} (h : a.toNat < 0xE000) :
    s.dmaSourceLow a =
      if a.toNat < 0x8000 then s.byteAt (romBase + s.cart.romOffset a)
      else if 0xA000 ≤ a.toNat ∧ a.toNat < 0xC000 then s.windowRead a
      else s.byteAt a.toNat := by
  unfold State.dmaSourceLow
  split_ifs with hrom hwin
  · rw [regionOf_rom hrom]
    rfl
  · rw [regionOf_cartRam hwin.1 hwin.2]
    exact s.cartRamRead_eq_windowRead a
  · by_cases hv : a.toNat < 0xA000
    · rw [regionOf_vram (by omega) hv]
    · rw [regionOf_wram (by omega) h]

/-- The byte that the copy reads for each source address. -/
theorem State.dmaSource_eq (s : State) (a : Addr) :
    s.dmaSource a =
      if a.toNat < 0x8000 then s.byteAt (romBase + s.cart.romOffset a)
      else if a.toNat < 0xA000 then s.byteAt a.toNat
      else if a.toNat < 0xC000 then s.windowRead a
      else if a.toNat < 0xE000 then s.byteAt a.toNat
      else s.byteAt (a.toNat - 0x2000) := by
  rw [State.dmaSource]
  by_cases hlow : a.toNat < 0xE000
  · rw [if_neg (by omega), s.dmaSourceLow_eq hlow]
    split_ifs <;> first | rfl | omega
  · have hsub : (a - 0x2000).toNat = a.toNat - 0x2000 := by bv_omega
    have := a.isLt
    rw [if_pos (by omega), s.dmaSourceLow_eq (by omega), hsub, if_neg (by omega), if_neg (by omega),
      if_neg (by omega), if_neg (by omega), if_neg (by omega), if_neg hlow]

/-! ## The copy does not read what it writes -/

theorem State.ramBankRead_congr {s t : State} (hc : t.cart = s.cart)
    (hm : ∀ p, cartRamBase ≤ p → t.byteAt p = s.byteAt p) (bank : Nat) (a : Addr) :
    t.ramBankRead bank a = s.ramBankRead bank a := by
  unfold State.ramBankRead State.ramBankPlace
  rw [hc, hm _ (Nat.le_add_right _ _)]

/-- The window reads nothing below cartridge RAM. -/
theorem State.windowRead_congr {s t : State} (hc : t.cart = s.cart)
    (hm : ∀ p, cartRamBase ≤ p → t.byteAt p = s.byteAt p) (a : Addr) : t.windowRead a = s.windowRead a := by
  unfold State.windowRead
  rw [hc]
  cases s.cart.mbc
  case mbc2 => simp only [hm _ (Nat.le_add_right _ _)]
  all_goals simp only [State.ramBankRead_congr hc hm]

/-- No source of the copy is in OAM: pages FE and FF read 0x2000 below. -/
theorem State.dmaSource_congr {s t : State} (hc : t.cart = s.cart)
    (hm : ∀ p, p < 0xFE00 ∨ 0xFEA0 ≤ p → t.byteAt p = s.byteAt p) (a : Addr) : t.dmaSource a = s.dmaSource a := by
  have hbase : 0xFEA0 ≤ cartRamBase ∧ 0xFEA0 ≤ romBase := by decide
  have := a.isLt
  rw [s.dmaSource_eq, t.dmaSource_eq, State.windowRead_congr hc (fun p hp => hm p (by omega)) a, hc]
  split_ifs
  · exact hm _ (by omega)
  · exact hm _ (by omega)
  · rfl
  · exact hm _ (by omega)
  · exact hm _ (by omega)

/-! ## What the copy leaves in OAM -/

theorem dmaCopy_keeps (page : Byte) (i n : Nat) {s : State} (h : s.mem.wf = true) {p : Nat}
    (hp : p < 0xFE00 + i ∨ 0xFE00 + i + n ≤ p) : (dmaCopy page i n s).byteAt p = s.byteAt p := by
  obtain ⟨m, hm, hkeep⟩ := dmaCopy_spec page i n s
  rw [hm]
  exact (hkeep h).2 p hp

/-- Each byte copied is the source byte of the state before the copy. -/
theorem byteAt_dmaCopy (page : Byte) (i n : Nat) {s : State} (h : s.mem.wf = true) (hle : i + n ≤ 160) {j : Nat}
    (hij : i ≤ j) (hjn : j < i + n) :
    (dmaCopy page i n s).byteAt (0xFE00 + j) = s.dmaSource (word16 page (BitVec.ofNat 8 j)) := by
  induction n generalizing i s with
  | zero => omega
  | succ n ih =>
    have hwf := State.wf_setByte (0xFE00 + i) (s.dmaSource (word16 page (BitVec.ofNat 8 i))) h
    rw [dmaCopy]
    by_cases hj : j = i
    · rw [dmaCopy_keeps page (i + 1) n hwf (by omega), State.byteAt_setByte _ _ _ h, if_pos (by omega), hj]
    · rw [ih (i + 1) hwf (by omega) (by omega) (by omega)]
      refine State.dmaSource_congr (State.cart_setByte s _ _) (fun p hp => ?_) _
      rw [State.byteAt_setByte _ _ _ h, if_neg (by omega)]

theorem State.mem_startDma (s : State) (v : Byte) : (s.startDma v).mem = (dmaCopy v 0 160 s).mem := by
  rw [State.startDma]

theorem State.byteAt_startDma (s : State) (v : Byte) (p : Nat) :
    (s.startDma v).byteAt p = (dmaCopy v 0 160 s).byteAt p := by
  rw [State.byteAt, State.mem_startDma, State.byteAt]

/-! ## The source by its page -/

theorem toNat_sourceAddr (v : Byte) {i : Nat} (h : i < 160) : (word16 v (BitVec.ofNat 8 i)).toNat = v.toNat * 256 + i := by
  rw [toNat_word16, BitVec.toNat_ofNat]
  omega

theorem Cart.romOffset_of_page (c : Cart) (v : Byte) {i : Nat} {a : Addr} (hi : i < 160) (ha : a.toNat = v.toNat * 256 + i) :
    c.romOffset a =
      ((if v.toNat < 0x40 then c.mbc.romBank0 else c.mbc.romBankN) % c.romBanks) * 16384
        + (v.toNat * 256 + i) % 16384 := by
  have hbank : v.toNat * 256 + i < 0x4000 ↔ v.toNat < 0x40 := by omega
  unfold Cart.romOffset
  simp only [ha, hbank, Config.romBankSize]

/-- Settles O48: the bytes of OAM by `byteAt_dmaCopy`, the source of each by `dmaSource_eq` at its address. -/
theorem dmaCopiesSourcePageToOam : Obligations.DmaCopiesSourcePageToOam := by
  intro s v hwf
  refine ⟨fun i hi => ?_, fun p hp => ?_, congrArg State.dma (s.busWrite_ff46 v), fun i hi => ?_⟩
  · rw [s.busWrite_of_io v regionOf_ff46 ioRegOf_ff46]
    refine (s.byteAt_startDma v _).trans ?_
    exact byteAt_dmaCopy v 0 160 hwf (by omega) (Nat.zero_le i) (by omega)
  · refine s.byteAt_busWrite_other 0xFF46 v hwf p (by rw [State.storeAddr, regionOf_ff46]; nofun) ?_
    omega
  · have ha := toNat_sourceAddr v hi
    have haddr : word16 v (BitVec.ofNat 8 i) = BitVec.ofNat 16 (v.toNat * 256 + i) := by
      rw [← ha, BitVec.ofNat_toNat, BitVec.setWidth_eq]
    rw [s.dmaSource_eq, s.cart.romOffset_of_page v hi ha, ha, haddr, ← Nat.add_assoc]
    exact if_congr (by omega) rfl (if_congr (by omega) rfl (if_congr (by omega) rfl (if_congr (by omega) rfl rfl)))

/-! ## The busy period (R130, R644) -/

theorem State.dma_deviceTick (s : State) :
    s.deviceTick.dma =
        { s.dma with remaining := if s.info.dmaWritten then s.dma.remaining else s.dma.remaining - 1 }
      ∧ s.deviceTick.info.dmaWritten = s.info.dmaWritten := by
  obtain ⟨t, q, ht, -⟩ := s.timerTick_spec
  obtain ⟨p, q', hs, -⟩ := s.timerTick.serialTick_spec
  obtain ⟨u, q'', l, hd⟩ := s.timerTick.serialTick.dmaTick.ppuDot_spec
  rw [State.deviceTick, hd, State.dmaTick_spec, hs, ht]
  exact ⟨rfl, rfl⟩

theorem advanceDevices_dma (n : Nat) (s : State) :
    (advanceDevices n s).dma =
      { s.dma with remaining := if s.info.dmaWritten then s.dma.remaining else s.dma.remaining - n } := by
  induction n generalizing s with
  | zero => rw [Nat.sub_zero, ite_self]; rfl
  | succ n ih =>
    obtain ⟨hdma, hwritten⟩ := s.dma_deviceTick
    rw [advanceDevices, ih, hdma, hwritten]
    split_ifs
    · rfl
    · rw [Nat.sub_sub, Nat.add_comm 1 n]

/-- Settles O49: `dmaHolds_iff` decides both accesses, and the period is counted by `advanceDevices_dma`. -/
theorem dmaHoldsBusBelowFf00 : Obligations.DmaHoldsBusBelowFf00 := by
  refine ⟨fun s a hrun hlow => ?_, fun s a h => ?_, advanceDevices_dma⟩
  · have hheld : s.dmaHolds a = true := (s.dmaHolds_iff a).mpr ⟨hrun, hlow⟩
    exact ⟨State.memRead_of_held hheld, fun op v => s.memWrite_error op a v hheld⟩
  · have hfree : s.dmaHolds a = false := Bool.eq_false_iff.mpr fun hheld => by
      have := (s.dmaHolds_iff a).mp hheld
      omega
    exact ⟨State.memRead_of_free hfree, fun op v => s.memWrite_ok op a v hfree⟩

end Sys2Proof.Machine
end

section
/-! Stores that OAM DMA refuses (`spec/20_memory.md` R120, `spec/60_exceptions.md` R601, R602): one lemma for each
storing operand form, and each instruction by the form it has. -/

namespace Sys2Proof.Machine

/-! ## The storing operand forms -/

theorem FaultsAt.of_finish {i : Instr} {s : State} {a : Addr} {n d : Nat} {r : Except FaultRaised State}
    (hexec : exec i s = finish s n r) (hr : r = .error { record := dmaConflict s (opcodeOf i) a, draws := d }) :
    FaultsAt i s a := ⟨d, by rw [hexec, hr]; rfl⟩

theorem StoreFaults.of_storeByte {i : Instr} {a : State → Addr} {v : State → Byte} {n : Nat}
    (h : ∀ s, exec i s = storeByte (opcodeOf i) (a s) (v s) n s) : StoreFaults i a :=
  fun s hheld => ⟨s.draws, (h s).trans (storeByte_error s _ _ _ n hheld)⟩

theorem StoreFaults.of_storeStepHL {i : Instr} {delta : Addr} (h : ∀ s, exec i s = storeStepHL (opcodeOf i) delta s) :
    StoreFaults i (fun s => s.pair .hl) :=
  fun s hheld => .of_finish (h s) (by rw [s.memWrite_error _ s.hl _ hheld]; rfl)

theorem StoreFaults.of_updMem {i : Instr} {f : Byte → Flags → AluResult} {n : Nat}
    (h : ∀ s, exec i s = updMem (opcodeOf i) f n s) : StoreFaults i (fun s => s.pair .hl) :=
  fun s hheld => ⟨_, (h s).trans (updMem_error s _ f n hheld)⟩

theorem StoreFaults.of_mapMem {i : Instr} {f : Byte → Byte} (h : ∀ s, exec i s = mapMem (opcodeOf i) f s) :
    StoreFaults i (fun s => s.pair .hl) :=
  fun s hheld => ⟨_, (h s).trans (mapMem_error s _ f hheld)⟩

/-- The two pushes, whatever follows them. -/
theorem TwoWritesFault.of_push16 {i : Instr} {s : State} {n : Nat} {v : Addr} {f : State → State}
    (h : exec i s = finish s n (andThen (s.push16 (opcodeOf i) v) f)) :
    TwoWritesFault i s (s.cpu.sp - 1) (s.cpu.sp - 2) :=
  ⟨fun h1 => .of_finish h (by rw [s.push16_error _ v h1]; rfl),
    fun h1 h2 => .of_finish h (by rw [s.push16_error_low _ v h1 h2]; rfl)⟩

theorem andThen_id (r : Except FaultRaised State) : andThen r id = r := by cases r <;> rfl

/-! ## `LD (n16),SP` -/

/-- A write just below an address that OAM DMA holds is none to FF46, so the address stays held. -/
theorem State.dmaHolds_next_busWrite (s : State) {a : Addr} (v : Byte) (h : s.dmaHolds (a + 1) = true) :
    (s.busWrite a v).dmaHolds (a + 1) = true := by
  have ha : a ≠ 0xFF46 := by
    rintro rfl
    exact absurd ((s.dmaHolds_iff _).mp h).2 (by decide)
  exact (State.dmaHolds_congr (s.dma_busWrite a v ha) _).trans h

theorem twoStoresFault_ld_atN16_sp (n : Addr) : TwoStoresFault (.ld_atN16_sp n) (fun _ => n) (fun _ => n + 1) := by
  refine fun s => ⟨fun h1 => .of_finish (d := s.draws) rfl ?_, fun h1 h2 => .of_finish (d := s.draws) rfl ?_⟩
  · rw [s.memWrite_error _ _ _ h1]
    rfl
  · rw [s.memWrite_ok _ _ _ h1]
    dsimp only
    rw [State.memWrite_error _ _ _ _ (s.dmaHolds_next_busWrite _ h2), State.conflict, State.info_busWrite,
      State.draws_busWrite]
    rfl

/-! ## The dispatch (R615) -/

theorem State.returnAddr_eq (s : State) :
    s.returnAddr = if s.cpu.haltBug = true then s.cpu.pc - 1 else s.cpu.pc := rfl

/-- Settles O19: each instruction by the `of_` lemma of its operand form, the dispatch by its two error lemmas. -/
theorem storeDuringDmaFaults : Obligations.StoreDuringDmaFaults := by
  refine ⟨fun r => .of_storeByte (exec_ldHLR r), fun n => .of_storeByte (v := fun _ => n) fun _ => rfl,
    .of_storeByte fun _ => rfl, .of_storeByte fun _ => rfl, fun n => .of_storeByte fun _ => rfl,
    .of_storeStepHL fun _ => rfl, .of_storeStepHL fun _ => rfl, .of_updMem fun _ => rfl, .of_updMem fun _ => rfl,
    fun o => .of_updMem (f := rot8 o) (n := 16) fun s => ?_, fun b => .of_mapMem (f := res8 b) fun s => ?_,
    fun b => .of_mapMem (f := set8 b) fun s => ?_, twoStoresFault_ld_atN16_sp, fun p s => ?_, fun n s => .of_push16 rfl,
    fun y s => .of_push16 (exec_rst y s), fun cnd n s hcond => ?_, fun s a h => ?_⟩
  · rw [exec_rotHL]
    cases o <;> rfl
  · rw [exec_resHL]
    cases b <;> rfl
  · rw [exec_setHL]
    cases b <;> rfl
  · exact .of_push16 (f := id) (by rw [exec_push, andThen_id]; rfl)
  · exact .of_push16 (by rw [exec_callCc, callIf, if_pos hcond]; rfl)
  · rcases h with ⟨h1, rfl⟩ | ⟨h1, h2, rfl⟩
    · exact ⟨_, s.dispatchInterrupt_error h1, by rw [s.returnAddr_eq]⟩
    · exact ⟨_, s.dispatchInterrupt_error_low h1 h2, by rw [s.returnAddr_eq]⟩

end Sys2Proof.Machine
end

section
/-! A load that fails (`spec/21_cartridge_mbc.md` R190): the state it leaves, in which no step happens
(`spec/80_host_interface.md` R782). -/

namespace Sys2Proof.Machine

theorem State.loadGame_error (s : State) {f : RomImage} {st : CartStatus} (initMem initCartRam : Memory)
    (h : f.parse = .error st) : s.loadGame (some f) initMem initCartRam = (st, s.unloaded st) := by
  rw [State.loadGame, h]

/-- Whatever failure a load answers, the state after it is `unloaded` under that status. -/
theorem State.loadGame_failed {s t : State} {file : Option RomImage} {initMem initCartRam : Memory} {st : CartStatus}
    (h : s.loadGame file initMem initCartRam = (st, t)) (hst : st ≠ .loaded) : t = s.unloaded st := by
  cases file with
  | none =>
    cases h
    rfl
  | some f =>
    cases hp : f.parse with
    | error e =>
      rw [s.loadGame_error initMem initCartRam hp] at h
      cases h
      rfl
    | ok c =>
      rw [s.loadGame_ok initMem initCartRam hp] at h
      cases h
      exact absurd rfl hst

/-- A memory without the entries from `b` on reads as unlisted there. -/
theorem Memory.read_filter_below (m : Memory) {b p : Nat} (h : b ≤ p) :
    Memory.read (m.filter fun c => decide (c.1 < b)) p = Memory.unlisted := by
  induction m with
  | nil => rfl
  | cons c rest ih =>
    by_cases hc : c.1 < b
    · rw [List.filter_cons_of_pos (by simpa using hc), Memory.read, if_neg (by omega)]
      exact ih
    · rw [List.filter_cons_of_neg (by simpa using hc)]
      exact ih

theorem step_of_idle {s : State} (h : s.idle = true) : step s = .next s := by rw [step, if_pos h]

theorem State.idle_of_not_loaded {s : State} (h : s.cart.status ≠ .loaded) : s.idle = true := by
  rw [State.idle, decide_eq_true h, Bool.true_or]

theorem State.doTick_of_not_loaded {s : State} (h : s.cart.status ≠ .loaded) :
    s.doTick = .next { mask := 0, state := s, calls := [] } := by
  rw [State.doTick, if_pos h]

/-- Settles O58: the state is `unloaded`, whose status keeps the machine idle. -/
theorem failedLoadLeavesNoCartridge : Obligations.FailedLoadLeavesNoCartridge := by
  intro s t file initMem initCartRam st hload hst
  obtain rfl := State.loadGame_failed hload hst
  have hcart : (s.unloaded st).cart.status ≠ .loaded := hst
  exact ⟨rfl, rfl, fun p hp => s.mem.read_filter_below hp, step_of_idle (State.idle_of_not_loaded hcart),
    State.doTick_of_not_loaded hcart⟩

end Sys2Proof.Machine
end

section
/-! The loader's checks in their order (`spec/21_cartridge_mbc.md` R182), the header checksum (R184) and the tables of
the RAM sizes and the cartridge types (R186, R187). -/

namespace Sys2Proof.Machine

/-! ## The checksum (R184) -/

/-- The loop takes each byte and 1 from the sum, modulo 256. -/
theorem checksumLoop_sum (g : Nat → Byte) (l : List Nat) (x : Byte) :
    ((l.foldl (fun x i => x - g i - 1) x).toNat + (l.map fun i => (g i).toNat).sum + l.length) % 256 = x.toNat := by
  induction l generalizing x with
  | nil => exact Nat.mod_eq_of_lt x.isLt
  | cons i rest ih =>
    have hx := x.isLt
    have hg := (g i).isLt
    have hsub : (x - g i - 1).toNat = (x.toNat + 512 - (g i).toNat - 1) % 256 := by bv_omega
    have hrest := ih (x - g i - 1)
    rw [List.foldl_cons, List.map_cons, List.sum_cons, List.length_cons]
    omega

/-! ## The tables (R186, R187) -/

theorem ramSizeOf_eq_some (code : Byte) (n : Nat) :
    ramSizeOf code = some n ↔
      (code.toNat, n) ∈ [(0, 0), (1, 2 * 1024), (2, 8 * 1024), (3, 32 * 1024), (4, 128 * 1024), (5, 64 * 1024)] := by
  unfold ramSizeOf
  rcases hc : code.toNat with _ | _ | _ | _ | _ | _ | k <;> simp [eq_comm]

/-- The flags of each type code, and that it has a type exactly if the list of variants has it. -/
theorem cartTypeOf_eq_lookup : ∀ code : Byte, cartTypeOf code =
    (cartVariants.lookup code.toNat).map fun v =>
      { variant := v
        battery := decide (code.toNat ∈ [0x03, 0x06, 0x09, 0x0F, 0x10, 0x13, 0x1B, 0x1E])
        rtc := decide (code.toNat ∈ [0x0F, 0x10])
        rumble := decide (code.toNat ∈ [0x1C, 0x1D, 0x1E]) } := by
  decide +kernel

/-- No code stands twice in the list of variants. -/
theorem lookup_cartVariants (n : Nat) (v : Variant) : cartVariants.lookup n = some v ↔ (n, v) ∈ cartVariants := by
  have hcodes : ∀ x ∈ cartVariants, cartVariants.lookup x.1 = some x.2 := by decide
  refine ⟨fun h => ?_, hcodes (n, v)⟩
  obtain ⟨l₁, l₂, heq, -⟩ := List.lookup_eq_some_iff.mp h
  rw [heq]
  simp

theorem cartTypeOf_eq_some (code : Byte) (t : CartType) :
    cartTypeOf code = some t ↔
      (code.toNat, t.variant) ∈ cartVariants
        ∧ t.battery = decide (code.toNat ∈ [0x03, 0x06, 0x09, 0x0F, 0x10, 0x13, 0x1B, 0x1E])
        ∧ t.rtc = decide (code.toNat ∈ [0x0F, 0x10]) ∧ t.rumble = decide (code.toNat ∈ [0x1C, 0x1D, 0x1E]) := by
  rw [cartTypeOf_eq_lookup, ← lookup_cartVariants, Option.map_eq_some_iff]
  constructor
  · rintro ⟨v, hv, rfl⟩
    exact ⟨hv, rfl, rfl, rfl⟩
  · rintro ⟨hv, hb, hr, hu⟩
    exact ⟨t.variant, hv, by rw [← hb, ← hr, ← hu]⟩

/-! ## The checks (R182) -/

/-- The header cannot be parsed: the file is too short, or its ROM size code or its checksum is bad. -/
def RomImage.BadHeader (f : RomImage) : Prop :=
  f.len < 0x0150 ∨ 8 < (f.at 0x0148).toNat ∨ f.checksum ≠ f.at 0x014D

/-- The bytes that the header declares, for a size code that is one (R185). -/
def RomImage.declaredLen (f : RomImage) : Nat := 32768 * 2 ^ (f.at 0x0148).toNat

/-- The banks that the header declares. -/
def RomImage.declaredBanks (f : RomImage) : Nat := 2 * 2 ^ (f.at 0x0148).toNat

theorem RomImage.parse_of_big {f : RomImage} (h : 8388608 < f.len) : f.parse = .error .romTooBig := by
  rw [RomImage.parse, if_pos (show Config.romLimit < f.len from h)]

theorem RomImage.parse_of_badHeader {f : RomImage} (hlen : f.len ≤ 8388608) (h : f.BadHeader) :
    f.parse = .error .romParseError := by
  have hsize : (if f.len < 0x0150 ∨ f.checksum ≠ f.at 0x014D then none else romSizeOf (f.at 0x0148)) = none := by
    by_cases hc : f.len < 0x0150 ∨ f.checksum ≠ f.at 0x014D
    · rw [if_pos hc]
    · have hcode : 8 < (f.at 0x0148).toNat := by
        rcases h with h | h | h
        · exact absurd (.inl h) hc
        · exact h
        · exact absurd (.inr h) hc
      rw [if_neg hc, romSizeOf, if_neg (by omega)]
  rw [RomImage.parse, if_neg (show ¬Config.romLimit < f.len from Nat.not_lt.mpr hlen)]
  simp only [hsize]

theorem RomImage.size_of_goodHeader {f : RomImage} (hhead : ¬f.BadHeader) :
    (if f.len < 0x0150 ∨ f.checksum ≠ f.at 0x014D then none else romSizeOf (f.at 0x0148)) = some f.declaredLen := by
  obtain ⟨hlong, hcode, hsum⟩ : ¬f.len < 0x0150 ∧ ¬8 < (f.at 0x0148).toNat ∧ ¬f.checksum ≠ f.at 0x014D := by
    simpa only [RomImage.BadHeader, not_or] using hhead
  rw [if_neg (not_or.mpr ⟨hlong, hsum⟩), romSizeOf, if_pos (by omega), Nat.shiftLeft_eq, RomImage.declaredLen]

theorem RomImage.declaredLen_div (f : RomImage) : f.declaredLen / Config.romBankSize = f.declaredBanks := by
  rw [RomImage.declaredLen, RomImage.declaredBanks, Config.romBankSize]
  omega

section

variable {f : RomImage} (hlen : f.len ≤ 8388608) (hhead : ¬f.BadHeader)
include hlen hhead

theorem RomImage.parse_of_wrongLen (h : f.len ≠ f.declaredLen) : f.parse = .error .romSizeMismatch := by
  rw [RomImage.parse, if_neg (show ¬Config.romLimit < f.len from Nat.not_lt.mpr hlen)]
  simp only [f.size_of_goodHeader hhead, if_pos h]

variable (hdecl : f.len = f.declaredLen)
include hdecl

theorem RomImage.parse_of_noType (h : cartTypeOf (f.at 0x0147) = none) : f.parse = .error .romUnsupportedMbc := by
  rw [RomImage.parse, if_neg (show ¬Config.romLimit < f.len from Nat.not_lt.mpr hlen)]
  simp only [f.size_of_goodHeader hhead, if_neg (not_not.mpr hdecl), h]

variable {t : CartType} (htype : cartTypeOf (f.at 0x0147) = some t)
include htype

theorem RomImage.parse_of_tooManyBanks (h : t.variant.maxBanks < f.declaredBanks) : f.parse = .error .romTooBig := by
  rw [RomImage.parse, if_neg (show ¬Config.romLimit < f.len from Nat.not_lt.mpr hlen)]
  simp only [f.size_of_goodHeader hhead, if_neg (not_not.mpr hdecl), htype, f.declaredLen_div, if_pos h]

variable (hbanks : f.declaredBanks ≤ t.variant.maxBanks)
include hbanks

theorem RomImage.parse_of_badRam (h : ∀ n, t.variant.ramSize (f.at 0x0149) = some n → t.variant.maxRam < n) :
    f.parse = .error .ramSizeUnsupported := by
  rw [RomImage.parse, if_neg (show ¬Config.romLimit < f.len from Nat.not_lt.mpr hlen)]
  simp only [f.size_of_goodHeader hhead, if_neg (not_not.mpr hdecl), htype, f.declaredLen_div,
    if_neg (Nat.not_lt.mpr hbanks)]
  cases hram : t.variant.ramSize (f.at 0x0149) with
  | none => rfl
  | some n => exact if_pos (h n hram)

theorem RomImage.parse_of_goodRam {n : Nat} (hram : t.variant.ramSize (f.at 0x0149) = some n)
    (h : n ≤ t.variant.maxRam) : ∃ c, f.parse = .ok c := by
  rw [RomImage.parse, if_neg (show ¬Config.romLimit < f.len from Nat.not_lt.mpr hlen)]
  simp only [f.size_of_goodHeader hhead, if_neg (not_not.mpr hdecl), htype, f.declaredLen_div,
    if_neg (Nat.not_lt.mpr hbanks), hram, if_neg (Nat.not_lt.mpr h)]
  exact ⟨_, rfl⟩

end

/-- The size that a variant other than MBC2 takes from the code, and MBC2's own, which is always allowed (R186). -/
theorem Variant.ramSize_allowed {v : Variant} {code : Byte}
    (h : v = .mbc2 ∨ ∃ n, ramSizeOf code = some n ∧ n ≤ v.maxRam) : ∃ n, v.ramSize code = some n ∧ n ≤ v.maxRam := by
  by_cases hv : v = .mbc2
  · subst hv
    exact ⟨512, rfl, le_rfl⟩
  · rw [Variant.ramSize_of_ne hv]
    exact h.resolve_left hv

/-- Settles O57: the checksum by its loop, the tables, and one `RomImage.parse_of_` lemma for each ending of the
checks. -/
theorem loaderChecksInOrder : Obligations.LoaderChecksInOrder := by
  refine ⟨fun f => checksumLoop_sum (fun i => f.at (0x0134 + i)) (List.range 25) 0, ramSizeOf_eq_some,
    cartTypeOf_eq_some, fun v => by cases v <;> decide, fun s f initMem initCartRam st hst => ?_⟩
  have failed {e : CartStatus} (h : f.parse = .error e) : st = e := by
    rw [hst, s.loadGame_error initMem initCartRam h]
  refine ⟨fun hbig => failed (f.parse_of_big hbig), fun hlen => ⟨fun hbad => failed (f.parse_of_badHeader hlen hbad),
    fun hhead => ⟨fun hne => failed (f.parse_of_wrongLen hlen hhead hne), fun hdecl =>
      ⟨fun hnone => failed (f.parse_of_noType hlen hhead hdecl hnone), fun t htype =>
        ⟨fun hmany => failed (f.parse_of_tooManyBanks hlen hhead hdecl htype hmany), fun hbanks =>
          ⟨fun hv hram => failed (f.parse_of_badRam hlen hhead hdecl htype hbanks ?_), fun hram => ?_⟩⟩⟩⟩⟩⟩
  · rwa [Variant.ramSize_of_ne hv]
  · obtain ⟨n, hn, hmax⟩ := Variant.ramSize_allowed hram
    obtain ⟨c, hc⟩ := f.parse_of_goodRam hlen hhead hdecl htype hbanks hn hmax
    rw [hst, s.loadGame_ok initMem initCartRam hc]

end Sys2Proof.Machine
end

section
/-! One second of the clock (`spec/21_cartridge_mbc.md` R226): each counter of it by its carry, and the clock as a
number of seconds. -/

namespace Sys2Proof.Machine

/-! ## The carries -/

theorem Rtc.day_eq (t : Rtc) : t.day = 256 * bitNat t.day8 + t.dl.toNat := by
  unfold Rtc.day bitNat
  split <;> rfl

/-- The hour's carry goes to the day at 23. -/
theorem Rtc.tickHour_spec (t : Rtc) :
    t.tickHour.h.toNat = (if t.h.toNat = 23 then 0 else (t.h.toNat + 1) % 32)
      ∧ t.tickHour.day = (if t.h.toNat ≠ 23 then t.day else if t.day = 511 then 0 else t.day + 1)
      ∧ t.tickHour.carry = (t.carry || decide (t.h.toNat = 23 ∧ t.day = 511))
      ∧ t.tickHour.s = t.s ∧ t.tickHour.m = t.m ∧ t.tickHour.halt = t.halt := by
  unfold Rtc.tickHour
  by_cases h : t.h = 23
  · obtain ⟨hday, hcarry, hs, hm, hh, hhalt⟩ := ({ t with h := 0 } : Rtc).tickDay_spec
    have hn : t.h.toNat = 23 := congrArg BitVec.toNat h
    rw [if_pos h, if_pos hn, if_neg (not_not.mpr hn), hh, hcarry]
    refine ⟨rfl, hday, ?_, hs, hm, hhalt⟩
    simp only [hn, true_and]
    rfl
  · have hn : t.h.toNat ≠ 23 := fun he => h (BitVec.eq_of_toNat_eq he)
    rw [if_neg h]
    simp [hn, Rtc.day]

/-- The minute's carry goes to the hour at 59. -/
theorem Rtc.tickMinute_spec (t : Rtc) :
    t.tickMinute.m.toNat = (if t.m.toNat = 59 then 0 else (t.m.toNat + 1) % 64)
      ∧ t.tickMinute.h.toNat =
        (if t.m.toNat ≠ 59 then t.h.toNat else if t.h.toNat = 23 then 0 else (t.h.toNat + 1) % 32)
      ∧ t.tickMinute.day =
        (if t.m.toNat ≠ 59 ∨ t.h.toNat ≠ 23 then t.day else if t.day = 511 then 0 else t.day + 1)
      ∧ t.tickMinute.carry = (t.carry || decide (t.m.toNat = 59 ∧ t.h.toNat = 23 ∧ t.day = 511))
      ∧ t.tickMinute.s = t.s ∧ t.tickMinute.halt = t.halt := by
  unfold Rtc.tickMinute
  by_cases h : t.m = 59
  · obtain ⟨hh, hday, hcarry, hs, hm, hhalt⟩ := ({ t with m := 0 } : Rtc).tickHour_spec
    have hn : t.m.toNat = 59 := congrArg BitVec.toNat h
    simp only [if_pos h, hn, hm, ne_eq, not_true_eq_false, false_or, true_and, if_true, if_false]
    exact ⟨rfl, hh, hday, hcarry, hs, hhalt⟩
  · have hn : t.m.toNat ≠ 59 := fun he => h (BitVec.eq_of_toNat_eq he)
    rw [if_neg h]
    simp [hn, Rtc.day]

/-- The second's carry goes to the minute at 59. -/
theorem Rtc.tickSecond_spec (t : Rtc) (hrun : t.halt = false) :
    t.tickSecond.s.toNat = (if t.s.toNat = 59 then 0 else (t.s.toNat + 1) % 64)
      ∧ t.tickSecond.m.toNat =
        (if t.s.toNat ≠ 59 then t.m.toNat else if t.m.toNat = 59 then 0 else (t.m.toNat + 1) % 64)
      ∧ t.tickSecond.h.toNat =
        (if t.s.toNat ≠ 59 ∨ t.m.toNat ≠ 59 then t.h.toNat else if t.h.toNat = 23 then 0 else (t.h.toNat + 1) % 32)
      ∧ t.tickSecond.day =
        (if t.s.toNat ≠ 59 ∨ t.m.toNat ≠ 59 ∨ t.h.toNat ≠ 23 then t.day else if t.day = 511 then 0 else t.day + 1)
      ∧ t.tickSecond.carry =
        (t.carry || decide (t.s.toNat = 59 ∧ t.m.toNat = 59 ∧ t.h.toNat = 23 ∧ t.day = 511))
      ∧ t.tickSecond.halt = false := by
  unfold Rtc.tickSecond
  rw [if_neg (by simp [hrun])]
  by_cases h : t.s = 59
  · obtain ⟨hm, hh, hday, hcarry, hs, hhalt⟩ := ({ t with s := 0 } : Rtc).tickMinute_spec
    have hn : t.s.toNat = 59 := congrArg BitVec.toNat h
    simp only [if_pos h, hn, hs, ne_eq, not_true_eq_false, false_or, true_and, if_true, if_false]
    exact ⟨rfl, hm, hh, hday, hcarry, hhalt.trans hrun⟩
  · have hn : t.s.toNat ≠ 59 := fun he => h (BitVec.eq_of_toNat_eq he)
    rw [if_neg h]
    simp [hn, hrun, Rtc.day]

/-! ## The clock as a number of seconds -/

/-- The seconds that a clock in range has counted. -/
def Rtc.seconds (t : Rtc) : Nat := ((t.day * 24 + t.h.toNat) * 60 + t.m.toNat) * 60 + t.s.toNat

/-- A running clock in range counts on, modulo 512 days, and stays in range. -/
theorem Rtc.seconds_tickSecond (t : Rtc) (hrun : t.halt = false) (hs : t.s.toNat < 60) (hm : t.m.toNat < 60)
    (hh : t.h.toNat < 24) :
    t.tickSecond.seconds = (t.seconds + 1) % (512 * 86400)
      ∧ t.tickSecond.s.toNat < 60 ∧ t.tickSecond.m.toNat < 60 ∧ t.tickSecond.h.toNat < 24 := by
  obtain ⟨es, em, eh, ed, -, -⟩ := t.tickSecond_spec hrun
  have hd := t.day_lt
  unfold Rtc.seconds
  by_cases h1 : t.s.toNat = 59
  · by_cases h2 : t.m.toNat = 59
    · by_cases h3 : t.h.toNat = 23
      · simp only [h1, h2, h3, ne_eq, not_true_eq_false, or_false, if_true, if_false] at es em eh ed
        split at ed <;> omega
      · simp only [h1, h2, h3, ne_eq, not_true_eq_false, not_false_eq_true, or_true, or_false, if_true, if_false]
          at es em eh ed
        omega
    · simp only [h1, h2, ne_eq, not_true_eq_false, not_false_eq_true, or_true, true_or, if_true, if_false]
        at es em eh ed
      omega
  · simp only [h1, ne_eq, not_false_eq_true, true_or, if_true, if_false] at es em eh ed
    omega

/-- The last second of the last day is the one that wraps. -/
theorem Rtc.seconds_eq_last_iff (t : Rtc) (hs : t.s.toNat < 60) (hm : t.m.toNat < 60) (hh : t.h.toNat < 24) :
    t.seconds + 1 = 512 * 86400 ↔ t.s.toNat = 59 ∧ t.m.toNat = 59 ∧ t.h.toNat = 23 ∧ t.day = 511 := by
  have hd := t.day_lt
  unfold Rtc.seconds
  omega

/-! ## The event (`spec/80_host_interface.md` R786) and the latch (R214) -/

theorem State.rtcSecond_mbc3 {s : State} {m : Mbc3} (hm : s.cart.mbc = .mbc3 m) (hr : s.cart.rtc = true)
    (hst : s.cart.status = .loaded) :
    s.rtcSecond = { s with cart := { s.cart with mbc := .mbc3 { m with live := m.live.tickSecond } } } := by
  simp [State.rtcSecond, Cart.rtcSecond, hm, hr, hst]

theorem State.rtcSecond_of_no_clock {s : State}
    (h : (∀ m, s.cart.mbc ≠ .mbc3 m) ∨ s.cart.rtc = false ∨ s.cart.status ≠ .loaded) : s.rtcSecond = s := by
  have hc : s.cart.rtcSecond = s.cart := by
    unfold Cart.rtcSecond
    cases hm : s.cart.mbc with
    | mbc3 m =>
      have hclosed : (s.cart.rtc && s.cart.status == .loaded) = false := by
        rcases h with h | h | h
        · exact absurd hm (h m)
        · simp [h]
        · simp [h]
      simp [hclosed, ← hm]
    | romOnly => simp [← hm]
    | mbc1 m => simp [← hm]
    | mbc2 m => simp [← hm]
    | mbc5 m => simp [← hm]
  rw [State.rtcSecond, hc]

/-- A write to 6000-7FFF is the latch write. -/
theorem Mbc3.write_latch (m : Mbc3) (rtc : Bool) {a : Addr} (v : Byte) (h : 0x6000 ≤ a.toNat) :
    m.write rtc a v =
      { m with
        latched := if rtc && m.latchPrev == 0x00 && v == 0x01 then m.live else m.latched
        latchPrev := v } := by
  rw [Mbc3.write, if_neg (by omega), if_neg (by omega), if_neg (by omega)]

/-- Settles O56: `Rtc.tickSecond_spec` for the counters, `Rtc.seconds_tickSecond` for the clock in range. -/
theorem rtcCountsSeconds : Obligations.RtcCountsSeconds := by
  refine ⟨fun t h => by rw [Rtc.tickSecond, if_pos h], fun t u hrun hs hm hh hu => ?_, fun t u hrun hu => ?_, fun s =>
    ⟨fun m hm hr hst => State.rtcSecond_mbc3 hm hr hst, State.rtcSecond_of_no_clock⟩, fun m a b ha _ hb _ => ?_⟩
  · subst hu
    obtain ⟨hsec, hs', hm', hh'⟩ := t.seconds_tickSecond hrun hs hm hh
    obtain ⟨-, -, -, -, hcarry, hhalt⟩ := t.tickSecond_spec hrun
    refine ⟨hsec, hs', hm', hh', hhalt, hcarry.trans ?_⟩
    exact congrArg (t.carry || ·) (decide_eq_decide.mpr (t.seconds_eq_last_iff hs hm hh).symm)
  · subst hu
    exact ⟨t.day_eq, t.tickSecond_spec hrun⟩
  · rw [Mbc3.write_latch _ _ _ ha, Mbc3.write_latch _ _ _ hb]
    exact ⟨rfl, rfl⟩

end Sys2Proof.Machine
end

section
/-! The memory bank controllers: what a write of 0000-7FFF leaves in the registers, in plain numbers
(`spec/21_cartridge_mbc.md` R206, R209, R211 to R214, R230), the banks they map (R200, R204) and the byte of RAM that an
access of A000-BFFF reaches (R202, R210). -/

namespace Sys2Proof.Machine

/-! ## Fields of the written byte -/

theorem ramEnableValue_eq (v : Byte) : ramEnableValue v = decide (v.toNat % 16 = 10) := by
  revert v
  decide

theorem setWidth_eq_mod (w : Nat) (v : Byte) : v.setWidth w = BitVec.ofNat w (v.toNat % 2 ^ w) := by
  apply BitVec.eq_of_toNat_eq
  simp

/-- A bank field whose 0 selects bank 1: the zero test is on the field. -/
theorem bankField_eq (w : Nat) (v : Byte) :
    (if v.setWidth w = 0 then 1 else v.setWidth w) =
      BitVec.ofNat w (if v.toNat % 2 ^ w = 0 then 1 else v.toNat % 2 ^ w) := by
  have hzero : v.setWidth w = 0 ↔ v.toNat % 2 ^ w = 0 := by
    rw [← BitVec.toNat_inj]
    simp
  by_cases h : v.toNat % 2 ^ w = 0
  · rw [if_pos (hzero.mpr h), if_pos h]
    rfl
  · rw [if_neg (mt hzero.mp h), if_neg h, setWidth_eq_mod]

/-- MBC5's bank number after a write of its low byte. -/
theorem romBank_lowWritten (b : BitVec 9) (v : Byte) :
    (b.extractLsb' 8 1 ++ v : BitVec 9) = BitVec.ofNat 9 (b.toNat / 256 * 256 + v.toNat) := by
  apply BitVec.eq_of_toNat_eq
  have hb := b.isLt
  have hv := v.isLt
  rw [BitVec.toNat_append, ← Nat.shiftLeft_add_eq_or_of_lt hv, Nat.shiftLeft_eq, BitVec.extractLsb'_toNat,
    Nat.shiftRight_eq_div_pow, BitVec.toNat_ofNat]
  omega

/-- MBC5's bank number after a write of its bit 8. -/
theorem romBank_highWritten (b : BitVec 9) (v : Byte) :
    (v.extractLsb' 0 1 ++ b.extractLsb' 0 8 : BitVec 9) = BitVec.ofNat 9 (v.toNat % 2 * 256 + b.toNat % 256) := by
  apply BitVec.eq_of_toNat_eq
  have hlow : (b.extractLsb' 0 8).toNat = b.toNat % 256 := by
    rw [BitVec.extractLsb'_toNat, Nat.shiftRight_zero]
  rw [BitVec.toNat_append, ← Nat.shiftLeft_add_eq_or_of_lt (b.extractLsb' 0 8).isLt, Nat.shiftLeft_eq, hlow,
    BitVec.extractLsb'_toNat, Nat.shiftRight_zero, BitVec.toNat_ofNat]
  omega

theorem rumbleBank_eq (v : Byte) : (v &&& 0x07).setWidth 4 = BitVec.ofNat 4 (v.toNat % 8) := by
  revert v
  decide

/-! ## The registers after a write -/

theorem Mbc1.write_eq (m : Mbc1) (a : Addr) (v : Byte) :
    m.write a v =
      if a.toNat < 0x2000 then { m with ramEnable := decide (v.toNat % 16 = 10) }
      else if a.toNat < 0x4000 then { m with bank1 := BitVec.ofNat 5 (if v.toNat % 32 = 0 then 1 else v.toNat % 32) }
      else if a.toNat < 0x6000 then { m with bank2 := BitVec.ofNat 2 (v.toNat % 4) }
      else { m with mode := v.getLsbD 0 } := by
  rw [Mbc1.write, ramEnableValue_eq, bankField_eq, setWidth_eq_mod 2]
  rfl

theorem Mbc2.write_eq (m : Mbc2) (a : Addr) (v : Byte) :
    m.write a v =
      if a.toNat < 0x4000 ∧ a.getLsbD 8 = false then { m with ramEnable := decide (v.toNat % 16 = 10) }
      else if a.toNat < 0x4000 then { m with romBank := BitVec.ofNat 4 (if v.toNat % 16 = 0 then 1 else v.toNat % 16) }
      else m := by
  rw [Mbc2.write, ramEnableValue_eq, bankField_eq]
  by_cases ha : a.toNat < 0x4000
  · cases hbit : a.getLsbD 8 <;> simp [ha]
  · simp [ha]

theorem Mbc3.write_eq (m : Mbc3) (rtc : Bool) (a : Addr) (v : Byte) :
    m.write rtc a v =
      if a.toNat < 0x2000 then { m with ramEnable := decide (v.toNat % 16 = 10) }
      else if a.toNat < 0x4000 then { m with romBank := BitVec.ofNat 7 (if v.toNat % 128 = 0 then 1 else v.toNat % 128) }
      else if a.toNat < 0x6000 then { m with sel := BitVec.ofNat 4 (v.toNat % 16) }
      else if rtc = true ∧ m.latchPrev = 0x00 ∧ v = 0x01 then { m with latched := m.live, latchPrev := v }
      else { m with latchPrev := v } := by
  have hlatch : (rtc && m.latchPrev == 0x00 && v == 0x01) = true ↔ rtc = true ∧ m.latchPrev = 0x00 ∧ v = 0x01 := by
    simp [and_assoc]
  rw [Mbc3.write, ramEnableValue_eq, bankField_eq, setWidth_eq_mod 4]
  by_cases h : rtc = true ∧ m.latchPrev = 0x00 ∧ v = 0x01
  · rw [if_pos (hlatch.mpr h), if_pos h]
    rfl
  · rw [if_neg (mt hlatch.mp h), if_neg h]
    rfl

theorem Mbc5.write_eq (m : Mbc5) (rumble : Bool) (a : Addr) (v : Byte) :
    m.write rumble a v =
      if a.toNat < 0x2000 then { m with ramEnable := decide (v.toNat % 16 = 10) }
      else if a.toNat < 0x3000 then { m with romBank := BitVec.ofNat 9 (m.romBank.toNat / 256 * 256 + v.toNat) }
      else if a.toNat < 0x4000 then { m with romBank := BitVec.ofNat 9 (v.toNat % 2 * 256 + m.romBank.toNat % 256) }
      else if a.toNat < 0x6000 then
        if rumble = true then { m with ramBank := BitVec.ofNat 4 (v.toNat % 8), motor := v.getLsbD 3 }
        else { m with ramBank := BitVec.ofNat 4 (v.toNat % 16) }
      else m := by
  rw [Mbc5.write, ramEnableValue_eq, romBank_lowWritten, romBank_highWritten, rumbleBank_eq, setWidth_eq_mod 4]
  rfl

/-- A write of 0000-7FFF changes the registers of the variant that is there, and nothing else of the cartridge. -/
theorem Cart.mbcWrite_cases (c : Cart) (a : Addr) (v : Byte) :
    c.mbcWrite a v = { c with mbc := (c.mbcWrite a v).mbc }
      ∧ (c.mbc = .romOnly → (c.mbcWrite a v).mbc = .romOnly)
      ∧ (∀ m, c.mbc = .mbc1 m → (c.mbcWrite a v).mbc = .mbc1 (m.write a v))
      ∧ (∀ m, c.mbc = .mbc2 m → (c.mbcWrite a v).mbc = .mbc2 (m.write a v))
      ∧ (∀ m, c.mbc = .mbc3 m → (c.mbcWrite a v).mbc = .mbc3 (m.write c.rtc a v))
      ∧ ∀ m, c.mbc = .mbc5 m → (c.mbcWrite a v).mbc = .mbc5 (m.write c.rumble a v) := by
  refine ⟨rfl, fun h => ?_, fun m h => ?_, fun m h => ?_, fun m h => ?_, fun m h => ?_⟩ <;>
    · unfold Cart.mbcWrite
      rw [h]

/-! ## The banks that the registers map -/

theorem Mbc.mbc1_romBank0 (m : Mbc1) : (Mbc.mbc1 m).romBank0 = if m.mode = true then m.bank2.toNat * 32 else 0 := by
  rw [Mbc.romBank0, Nat.shiftLeft_eq]

theorem Mbc.mbc1_romBankN (m : Mbc1) : (Mbc.mbc1 m).romBankN = m.bank2.toNat * 32 + m.bank1.toNat := by
  rw [Mbc.romBankN, ← Nat.shiftLeft_add_eq_or_of_lt m.bank1.isLt, Nat.shiftLeft_eq]

/-- The offset is inside the banks present, whatever the registers hold (R204). -/
theorem Cart.romOffset_lt (c : Cart) (a : Addr) (h : 0 < c.romBanks) : c.romOffset a < c.romBanks * 16384 := by
  have hbank := Nat.mod_lt (if a.toNat < 0x4000 then c.mbc.romBank0 else c.mbc.romBankN) h
  have hoffset := Nat.mod_lt a.toNat (show 16384 > 0 by decide)
  rw [Cart.romOffset, Config.romBankSize]
  omega

/-! ## Where an access of A000-BFFF goes -/

/-- Where RAM is present, a bank's byte is inside it (R202). -/
theorem Cart.ramTarget_eq_ram {c : Cart} {bank p : Nat} {a : Addr} (h : c.ramTarget bank a = .ram p) :
    0 < c.ramSize ∧ cartRamBase ≤ p ∧ p < cartRamBase + c.ramSize := by
  unfold Cart.ramTarget at h
  split at h
  · cases h
  · rename_i hsize
    have hpos := Nat.pos_of_ne_zero hsize
    have hin := Nat.mod_lt (bank * Config.ramBankSize + (a.toNat - 0xA000)) hpos
    rw [← CartTarget.ram.inj h]
    exact ⟨hpos, by omega, by omega⟩

theorem Cart.ramTarget_ne_cell (c : Cart) (bank p : Nat) (a : Addr) : c.ramTarget bank a ≠ .cell p := by
  unfold Cart.ramTarget
  split <;> exact CartTarget.noConfusion

/-- Behind its gate and its selection, a window leads to a bank of RAM, to the cell of MBC2, to a clock register or
nowhere. -/
theorem Cart.target_cases (c : Cart) (a : Addr) :
    (∃ bank, c.target a = c.ramTarget bank a) ∨ c.target a = .cell (cartRamBase + a.toNat % 512)
      ∨ (∃ r, c.target a = .rtc r) ∨ c.target a = .closed := by
  unfold Cart.target
  cases c.mbc with
  | romOnly => exact .inl ⟨0, rfl⟩
  | mbc1 m =>
    dsimp only
    split
    · exact .inl ⟨_, rfl⟩
    · exact .inr (.inr (.inr rfl))
  | mbc2 m =>
    dsimp only
    split
    · exact .inr (.inl rfl)
    · exact .inr (.inr (.inr rfl))
  | mbc3 m =>
    dsimp only
    split
    · split
      · exact .inl ⟨_, rfl⟩
      · split
        · split
          · exact .inr (.inr (.inl ⟨_, rfl⟩))
          · exact .inr (.inr (.inr rfl))
        · exact .inr (.inr (.inr rfl))
    · exact .inr (.inr (.inr rfl))
  | mbc5 m =>
    dsimp only
    split
    · exact .inl ⟨_, rfl⟩
    · exact .inr (.inr (.inr rfl))

theorem Cart.target_eq_ram {c : Cart} {a : Addr} {p : Nat} (h : c.target a = .ram p) :
    0 < c.ramSize ∧ cartRamBase ≤ p ∧ p < cartRamBase + c.ramSize := by
  rcases c.target_cases a with ⟨bank, ht⟩ | ht | ⟨r, ht⟩ | ht <;> rw [ht] at h
  · exact Cart.ramTarget_eq_ram h
  all_goals cases h

theorem Cart.target_eq_cell {c : Cart} {a : Addr} {p : Nat} (h : c.target a = .cell p) :
    p = cartRamBase + a.toNat % 512 := by
  rcases c.target_cases a with ⟨bank, ht⟩ | ht | ⟨r, ht⟩ | ht <;> rw [ht] at h
  · exact absurd h (c.ramTarget_ne_cell bank p a)
  · cases h
    rfl
  all_goals cases h

/-- Settles O55: `Cart.mbcWrite_cases` and the `write_eq` of each variant for the registers, `Cart.romOffset_lt` and the
inversions of `Cart.target` for the accesses. -/
theorem bankSelection : Obligations.BankSelection := by
  refine ⟨Cart.mbcWrite_cases, fun a v _ =>
    ⟨fun m => m.write_eq a v, fun m => m.write_eq a v, fun m rtc => m.write_eq rtc a v,
      fun m rumble => m.write_eq rumble a v⟩,
    ⟨rfl, rfl, fun m => ⟨Mbc.mbc1_romBank0 m, Mbc.mbc1_romBankN m⟩, fun _ => ⟨rfl, rfl⟩, fun _ => ⟨rfl, rfl⟩,
      fun _ => ⟨rfl, rfl⟩⟩,
    fun c a => ⟨rfl, c.romOffset_lt a, fun _ => Cart.target_eq_ram, fun _ => Cart.target_eq_cell⟩⟩

end Sys2Proof.Machine
end

section
/-! What a step can do to the machine outside the CPU: bus writes and the devices' advance, and nothing else. Said once,
for every instruction by its operand form, and for the step; what these two keep, every step keeps. -/

namespace Sys2Proof.Machine

/-- `t` comes of `s` by bus writes and advances of the devices; between them the CPU, the requests, the joypad's sample,
the fault, the draws and the step's record may change at will. -/
inductive Reaches (s : State) : State → Prop
  | refl : Reaches s s
  | control {t : State} (h : Reaches s t) (c : Cpu) (q : Irq) (j : Joypad) (f : Option FaultRecord) (d : Nat)
      (i : StepInfo) : Reaches s { t with cpu := c, irq := q, joypad := j, fault := f, draws := d, info := i }
  | busWrite {t : State} (h : Reaches s t) (a : Addr) (v : Byte) : Reaches s (t.busWrite a v)
  | advance {t : State} (h : Reaches s t) (n : Nat) : Reaches s (advanceDevices n t)

namespace Reaches

variable {s t u : State}

theorem trans (h : Reaches s t) (g : Reaches t u) : Reaches s u := by
  induction g with
  | refl => exact h
  | control _ c q j f d i ih => exact ih.control c q j f d i
  | busWrite _ a v ih => exact ih.busWrite a v
  | advance _ n ih => exact ih.advance n

/-! ## The operations of the CPU -/

theorem cpu (h : Reaches s t) (c : Cpu) : Reaches s { t with cpu := c } :=
  h.control c t.irq t.joypad t.fault t.draws t.info

theorem info (h : Reaches s t) (i : StepInfo) : Reaches s { t with info := i } :=
  h.control t.cpu t.irq t.joypad t.fault t.draws i

theorem setReg (h : Reaches s t) (r : Reg8) (v : Byte) : Reaches s (t.setReg r v) := by cases r <;> exact h.cpu _

theorem setFlags (h : Reaches s t) (f : Flags) : Reaches s (t.setFlags f) := h.cpu _

theorem setSp (h : Reaches s t) (v : Addr) : Reaches s (t.setSp v) := h.cpu _

theorem setPc (h : Reaches s t) (v : Addr) : Reaches s (t.setPc v) := h.cpu _

theorem setPair (h : Reaches s t) (p : Rp) (v : Addr) : Reaches s (t.setPair p v) := by
  cases p
  case bc => exact (h.setReg .b _).setReg .c _
  case de => exact (h.setReg .d _).setReg .e _
  case hl => exact (h.setReg .h _).setReg .l _
  case sp => exact h.setSp v

theorem setPair2 (h : Reaches s t) (p : Rp2) (v : Addr) : Reaches s (t.setPair2 p v) := by
  cases p
  case bc => exact h.setPair .bc v
  case de => exact h.setPair .de v
  case hl => exact h.setPair .hl v
  case af => exact (h.setReg .a _).setFlags _

theorem addCycles (h : Reaches s t) (n : Nat) : Reaches s (t.addCycles n) := h.info _

theorem memRead (h : Reaches s t) (a : Addr) : Reaches s (t.memRead a).2 := by
  rw [State.memRead_snd]
  exact h.control t.cpu t.irq t.joypad t.fault _ t.info

theorem memWrite (h : Reaches s t) {op : Byte} {a : Addr} {v : Byte} (hw : t.memWrite op a v = .ok u) :
    Reaches s u := by
  unfold State.memWrite at hw
  split at hw <;> cases hw
  exact h.busWrite a v

theorem raise (h : Reaches s t) (e : FaultRaised) : Reaches s (t.raise e) :=
  h.control t.cpu t.irq t.joypad _ _ t.info

/-! ## The stack -/

theorem push16 (h : Reaches s t) {op : Byte} {v : Addr} (hp : t.push16 op v = .ok u) : Reaches s u := by
  unfold State.push16 at hp
  dsimp only at hp
  split at hp
  · cases hp
  · rename_i hhigh
    exact (((h.setSp _).memWrite hhigh).setSp _).memWrite hp

theorem pop16 (h : Reaches s t) : Reaches s t.pop16.2 := (((h.memRead _).setSp _).memRead _).setSp _

theorem returnFromInterrupt (h : Reaches s t) : Reaches s t.returnFromInterrupt := h.pop16.cpu _

theorem dispatchInterrupt (h : Reaches s t) (hd : t.dispatchInterrupt = .ok u) : Reaches s u := by
  unfold State.dispatchInterrupt at hd
  dsimp only at hd
  split at hd
  · cases hd
  · rename_i hpush
    cases hd
    exact (((h.control _ _ t.joypad t.fault t.draws _).push16 hpush).setPc _).addCycles 20

/-- A write to DIV is what `STOP` makes of the counter. -/
theorem clearCounter (h : Reaches s t) : Reaches s t.clearCounter := h.busWrite 0xFF04 0

/-! ## The fetch -/

theorem fetch8 (h : Reaches s t) : Reaches s t.fetch8.2 := (h.memRead _).setPc _

theorem fetchOpcode (h : Reaches s t) : Reaches s t.fetchOpcode.2 := by
  unfold State.fetchOpcode
  dsimp only
  split
  · exact ((h.info _).memRead _).cpu _
  · exact (h.info _).fetch8

theorem fetchMore (n : Nat) (h : Reaches s t) : Reaches s (fetchMore n t).2 := by
  induction n generalizing t with
  | zero => exact h
  | succ n ih => exact ih h.fetch8

theorem fetchInstr (h : Reaches s t) : Reaches s t.fetchInstr.2 := h.fetchOpcode.fetchMore _

/-! ## The ends of a step -/

theorem joypadSample (h : Reaches s t) : Reaches s t.joypadSample := by
  obtain ⟨q, hq⟩ := t.joypadSample_spec
  rw [hq]
  exact h.control t.cpu _ _ t.fault t.draws t.info

theorem eiDelayUpdate (h : Reaches s t) : Reaches s t.eiDelayUpdate := by
  obtain ⟨i, d, he, -⟩ := t.eiDelayUpdate_spec
  rw [he]
  exact h.cpu _

theorem stateAdvance (h : Reaches s t) : Reaches s t.advance := by
  unfold State.advance
  split
  · exact h
  · exact h.advance _

theorem endInstr {s0 : State} (h0 : Reaches s s0) (h : Reaches s t) : Reaches s (endInstr s0 t) := by
  unfold Machine.endInstr
  split
  · exact h0.raise _
  · exact h.eiDelayUpdate.stateAdvance

theorem dispatchStep {s0 : State} (h0 : Reaches s s0) (h : Reaches s t) : Reaches s (dispatchStep s0 t) := by
  unfold Machine.dispatchStep
  split
  · rename_i hd
    exact (h.dispatchInterrupt hd).stateAdvance
  · exact h0.raise _

theorem haltedStep (h : Reaches s t) : Reaches s t.haltedStep := by
  unfold State.haltedStep
  dsimp only
  split
  · exact ((h.addCycles 4).cpu _).stateAdvance
  · exact (h.addCycles 4).stateAdvance

theorem stoppedStep (h : Reaches s t) : Reaches s t.stoppedStep := by
  unfold State.stoppedStep
  dsimp only
  split
  · exact (h.addCycles 4).cpu _
  · exact h.addCycles 4

end Reaches

/-! ## The operand forms -/

/-- Whatever next state the outcome is, it comes of `s` as `Reaches` says. -/
def OutReaches (s : State) (o : Out) : Prop := ∀ t, o = .next t → Reaches s t

namespace OutReaches

variable {s t : State}

theorem next (h : Reaches s t) : OutReaches s (.next t) := by
  rintro u hu
  cases hu
  exact h

theorem done (h : Reaches s t) (n : Nat) : OutReaches s (done n t) := .next (h.addCycles n)

theorem finish (h : Reaches s t) (n : Nat) {r : Except FaultRaised State} (hr : ∀ u, r = .ok u → Reaches s u) :
    OutReaches s (finish t n r) := by
  cases r with
  | ok u => exact .next ((hr u rfl).addCycles n)
  | error e => exact .next (h.raise e)

theorem finish_andThen (h : Reaches s t) (n : Nat) {r : Except FaultRaised State} {f : State → State}
    (hr : ∀ u, r = .ok u → Reaches s (f u)) : OutReaches s (Machine.finish t n (andThen r f)) := by
  refine finish h n fun u hu => ?_
  cases r with
  | ok w =>
    cases hu
    exact hr w rfl
  | error e => cases hu

variable (s)

theorem loadReg (r : Reg8) (a : Addr) (n : Nat) : OutReaches s (loadReg r a n s) :=
  done ((Reaches.refl.memRead a).setReg _ _) n

theorem storeByte (op : Byte) (a : Addr) (v : Byte) (n : Nat) : OutReaches s (storeByte op a v n s) :=
  finish .refl n fun _ hu => Reaches.refl.memWrite hu

theorem loadStepHL (delta : Addr) : OutReaches s (loadStepHL delta s) :=
  done (((Reaches.refl.memRead _).setReg _ _).setPair _ _) 8

theorem storeStepHL (op : Byte) (delta : Addr) : OutReaches s (storeStepHL op delta s) :=
  finish_andThen .refl 8 fun _ hu => (Reaches.refl.memWrite hu).setPair _ _

theorem storeSp (op : Byte) (a : Addr) : OutReaches s (storeSp op a s) := by
  refine finish .refl 20 fun u hu => ?_
  split at hu
  · rename_i hlow
    exact (Reaches.refl.memWrite hlow).memWrite hu
  · cases hu

theorem pushPair (op : Byte) (p : Rp2) : OutReaches s (pushPair op p s) :=
  finish .refl 16 fun _ hu => Reaches.refl.push16 hu

theorem popPair (p : Rp2) : OutReaches s (popPair p s) := done (Reaches.refl.pop16.setPair2 _ _) 12

theorem aluReg (op : AluOp) (r : Reg8) : OutReaches s (aluReg op r s) := done ((Reaches.refl.setReg _ _).setFlags _) 4

theorem aluMem (op : AluOp) : OutReaches s (aluMem op s) :=
  done (((Reaches.refl.memRead _).setReg _ _).setFlags _) 8

theorem aluImm (op : AluOp) (n : Byte) : OutReaches s (aluImm op n s) := done ((Reaches.refl.setReg _ _).setFlags _) 8

theorem updReg (f : Byte → Flags → AluResult) (r : Reg8) (n : Nat) : OutReaches s (updReg f r n s) :=
  done ((Reaches.refl.setReg _ _).setFlags _) n

theorem updMem (op : Byte) (f : Byte → Flags → AluResult) (n : Nat) : OutReaches s (updMem op f n s) :=
  finish_andThen .refl n fun _ hu => ((Reaches.refl.memRead _).memWrite hu).setFlags _

theorem addPair (p : Rp) (delta : Addr) : OutReaches s (addPair p delta s) := done (Reaches.refl.setPair _ _) 8

theorem addHLPair (p : Rp) : OutReaches s (addHLPair p s) := done ((Reaches.refl.setPair _ _).setFlags _) 8

theorem bitMem (b : Idx8) : OutReaches s (bitMem b s) := done ((Reaches.refl.memRead _).setFlags _) 12

theorem mapReg (f : Byte → Byte) (r : Reg8) : OutReaches s (mapReg f r s) := done (Reaches.refl.setReg _ _) 8

theorem mapMem (op : Byte) (f : Byte → Byte) : OutReaches s (mapMem op f s) :=
  finish .refl 16 fun _ hu => (Reaches.refl.memRead _).memWrite hu

theorem jumpTo (a : Addr) (n : Nat) : OutReaches s (jumpTo a n s) := done (Reaches.refl.setPc a) n

theorem jumpIf (cnd : Cond) (a : Addr) (n k : Nat) : OutReaches s (jumpIf cnd a n k s) := by
  unfold Machine.jumpIf
  split
  · exact jumpTo s a n
  · exact done .refl k

theorem callTo (op : Byte) (a : Addr) (n : Nat) : OutReaches s (callTo op a n s) :=
  finish_andThen .refl n fun _ hu => (Reaches.refl.push16 hu).setPc a

theorem callIf (op : Byte) (cnd : Cond) (a : Addr) : OutReaches s (callIf op cnd a s) := by
  unfold Machine.callIf
  split
  · exact callTo s op a 24
  · exact done .refl 12

theorem retFrom (n : Nat) : OutReaches s (retFrom n s) := done (Reaches.refl.pop16.setPc _) n

theorem retIf (cnd : Cond) : OutReaches s (retIf cnd s) := by
  unfold Machine.retIf
  split
  · exact retFrom s 20
  · exact done .refl 8

theorem illegalOpcode (op : Byte) : OutReaches s (illegalOpcode op s) :=
  next (Reaches.refl.control s.cpu s.irq s.joypad _ s.draws s.info)

end OutReaches

/-! ## The instructions, as the decoder selects them -/

/-- Every outcome of `i` is as `OutReaches` says. -/
def ExecReaches (i : Instr) : Prop := ∀ s, OutReaches s (exec i s)

namespace ExecReaches

theorem of_eq {i : Instr} {f : State → Out} (h : ∀ s, exec i s = f s) (hf : ∀ s, OutReaches s (f s)) :
    ExecReaches i := fun s => (h s).symm ▸ hf s

theorem ldRR (dst src : Reg8) : ExecReaches (.ldRR dst src) :=
  .of_eq (exec_ldRR dst src) fun _ => .done (Reaches.refl.setReg _ _) 4
theorem ldRN (dst : Reg8) (n : Byte) : ExecReaches (.ldRN dst n) :=
  .of_eq (exec_ldRN dst n) fun _ => .done (Reaches.refl.setReg _ _) 8
theorem ldRHL (dst : Reg8) : ExecReaches (.ldRHL dst) := .of_eq (exec_ldRHL dst) fun s => .loadReg s _ _ _
theorem ldHLR (src : Reg8) : ExecReaches (.ldHLR src) := .of_eq (exec_ldHLR src) fun s => .storeByte s _ _ _ _
theorem ldRpN (p : Rp) (n : Addr) : ExecReaches (.ldRpN p n) :=
  .of_eq (exec_ldRpN p n) fun _ => .done (Reaches.refl.setPair _ _) 12
theorem push (p : Rp2) : ExecReaches (.push p) := .of_eq (exec_push p) fun s => .pushPair s _ _
theorem pop (p : Rp2) : ExecReaches (.pop p) := .of_eq (exec_pop p) fun s => .popPair s _

theorem aluR (op : AluOp) (r : Reg8) : ExecReaches (.aluR op r) := .of_eq (exec_aluR op r) fun s => .aluReg s _ _
theorem aluHL (op : AluOp) : ExecReaches (.aluHL op) := .of_eq (exec_aluHL op) fun s => .aluMem s _
theorem aluN (op : AluOp) (n : Byte) : ExecReaches (.aluN op n) := .of_eq (exec_aluN op n) fun s => .aluImm s _ _
theorem incR (r : Reg8) : ExecReaches (.incR r) := .of_eq (exec_incR r) fun s => .updReg s _ _ _
theorem decR (r : Reg8) : ExecReaches (.decR r) := .of_eq (exec_decR r) fun s => .updReg s _ _ _
theorem incRp (p : Rp) : ExecReaches (.incRp p) := .of_eq (exec_incRp p) fun s => .addPair s _ _
theorem decRp (p : Rp) : ExecReaches (.decRp p) := .of_eq (exec_decRp p) fun s => .addPair s _ _
theorem addHLRp (p : Rp) : ExecReaches (.addHLRp p) := .of_eq (exec_addHLRp p) fun s => .addHLPair s _

theorem jpCc (cnd : Cond) (n : Addr) : ExecReaches (.jpCc cnd n) := .of_eq (exec_jpCc cnd n) fun s => .jumpIf s _ _ _ _
theorem jrCc (cnd : Cond) (e : Byte) : ExecReaches (.jrCc cnd e) := .of_eq (exec_jrCc cnd e) fun s => .jumpIf s _ _ _ _
theorem callCc (cnd : Cond) (n : Addr) : ExecReaches (.callCc cnd n) :=
  .of_eq (exec_callCc cnd n) fun s => .callIf s _ _ _
theorem retCc (cnd : Cond) : ExecReaches (.retCc cnd) := .of_eq (exec_retCc cnd) fun s => .retIf s _
theorem rst (y : Idx8) : ExecReaches (.rst y) := .of_eq (exec_rst y) fun s => .callTo s _ _ _

/-- R502: an illegal opcode sets the fault alone. -/
theorem illegal (o : IllegalOp) : ExecReaches (.illegal o) := .of_eq (exec_illegal o) fun s => .illegalOpcode s _

/-- R266: the 0xCB page. -/
theorem decodeCb (o : Byte) : ExecReaches (decodeCb o) := by
  refine .of_eq (exec_decodeCb o) fun s => ?_
  unfold cbPage
  dsimp only
  split
  · exact .updReg s _ _ _
  · exact .updMem s _ _ _
  · exact .done (Reaches.refl.setFlags _) 8
  · exact .bitMem s _
  · exact .mapReg s _ _
  · exact .mapMem s _ _
  · exact .mapReg s _ _
  · exact .mapMem s _ _

/-- R501: the byte 0xCB, decoded alone, fetches its second byte in the same step. -/
theorem prefix_cb : ExecReaches .prefix_cb := by
  intro s t h
  have hpage : exec (Sys2Proof.decodeCb s.fetch8.1) s.fetch8.2 = .next t := (exec_decodeCb _ _).trans h
  exact Reaches.refl.fetch8.trans (decodeCb _ _ t hpage)

theorem stop (b : Byte) : ExecReaches (.stop b) := fun _ => .done (Reaches.refl.clearCounter.cpu _) 4

theorem halt : ExecReaches .halt := by
  refine fun s => .done ?_ 4
  split
  · exact Reaches.refl.cpu _
  · exact Reaches.refl.cpu _

theorem ei : ExecReaches .ei := by
  refine fun s => .done ?_ 4
  split
  · exact Reaches.refl.cpu _
  · exact .refl

/-- R265, x = 0. -/
theorem decodeX0 (o b1 : Byte) (n16 : Addr) : ExecReaches (decodeX0 o b1 n16) := by
  unfold Sys2Proof.decodeX0
  dsimp only
  split
  next =>
    split
    · exact fun _ => .done .refl 4
    · exact fun s => .storeSp s _ _
    · exact stop b1
    · exact fun s => .jumpTo s _ _
    · exact jrCc _ _
  next =>
    split
    · exact addHLRp _
    · exact ldRpN _ _
  next =>
    split
    · exact fun s => .storeByte s _ _ _ _
    · exact fun s => .loadReg s _ _ _
    · exact fun s => .storeByte s _ _ _ _
    · exact fun s => .loadReg s _ _ _
    · exact fun s => .storeStepHL s _ _
    · exact fun s => .loadStepHL s _
    · exact fun s => .storeStepHL s _ _
    · exact fun s => .loadStepHL s _
  next =>
    split
    · exact decRp _
    · exact incRp _
  next =>
    split
    · exact incR _
    · exact fun s => .updMem s _ _ _
  next =>
    split
    · exact decR _
    · exact fun s => .updMem s _ _ _
  next =>
    split
    · exact ldRN _ _
    · exact fun s => .storeByte s _ _ _ _
  next =>
    split
    · exact fun s => .updReg s _ _ _
    · exact fun s => .updReg s _ _ _
    · exact fun s => .updReg s _ _ _
    · exact fun s => .updReg s _ _ _
    · exact fun s => .updReg s _ _ _
    · exact fun _ => .done ((Reaches.refl.setReg _ _).setFlags _) 4
    · exact fun _ => .done (Reaches.refl.setFlags _) 4
    · exact fun _ => .done (Reaches.refl.setFlags _) 4

/-- R265, x = 1. -/
theorem decodeX1 (o : Byte) : ExecReaches (decodeX1 o) := by
  unfold Sys2Proof.decodeX1
  split
  · exact ldRR _ _
  · exact ldRHL _
  · exact ldHLR _
  · exact halt

/-- R265, x = 2. -/
theorem decodeX2 (o : Byte) : ExecReaches (decodeX2 o) := by
  unfold Sys2Proof.decodeX2
  split
  · exact aluR _ _
  · exact aluHL _

/-- R265, x = 3. -/
theorem decodeX3 (o b1 : Byte) (n16 : Addr) : ExecReaches (decodeX3 o b1 n16) := by
  unfold Sys2Proof.decodeX3
  dsimp only
  split
  next =>
    split
    · exact fun s => .storeByte s _ _ _ _
    · exact fun _ => .done ((Reaches.refl.setSp _).setFlags _) 16
    · exact fun s => .loadReg s _ _ _
    · exact fun _ => .done ((Reaches.refl.setPair _ _).setFlags _) 12
    · exact retCc _
  next =>
    split
    · split
      · exact fun s => .retFrom s _
      · exact fun _ => .done Reaches.refl.returnFromInterrupt 16
      · exact fun s => .jumpTo s _ _
      · exact fun _ => .done (Reaches.refl.setSp _) 8
    · exact pop _
  next =>
    split
    · exact fun s => .storeByte s _ _ _ _
    · exact fun s => .storeByte s _ _ _ _
    · exact fun s => .loadReg s _ _ _
    · exact fun s => .loadReg s _ _ _
    · exact jpCc _ _
  next =>
    split
    · exact fun s => .jumpTo s _ _
    · exact decodeCb _
    · exact illegal .xd3
    · exact illegal .xdb
    · exact illegal .xe3
    · exact illegal .xeb
    · exact fun _ => .done (Reaches.refl.cpu _) 4
    · exact ei
  next =>
    split
    · exact illegal .xe4
    · exact illegal .xec
    · exact illegal .xf4
    · exact illegal .xfc
    · exact callCc _ _
  next =>
    split
    · split
      · exact fun s => .callTo s _ _ _
      · exact illegal .xdd
      · exact illegal .xed
      · exact illegal .xfd
    · exact push _
  next => exact aluN _ _
  next => exact rst _

theorem decodeBytes (o b1 b2 : Byte) : ExecReaches (decodeBytes o b1 b2) := by
  unfold Sys2Proof.decodeBytes
  split
  · exact decodeX0 _ _ _
  · exact decodeX1 _
  · exact decodeX2 _
  · exact decodeX3 _ _ _

/-- Every instruction that the decoder reads. -/
theorem of_decode {bytes : List Byte} {i : Instr} (h : decode bytes = .ok i) : ExecReaches i := by
  unfold decode at h
  split at h
  · cases h
  · split at h
    · cases h
      exact decodeBytes _ _ _
    · split at h
      · cases h
        exact prefix_cb
      · cases h
  · split at h
    · cases h
      exact decodeBytes _ _ _
    · cases h
  · cases h
    exact decodeBytes _ _ _

end ExecReaches

/-! ## The step -/

theorem stepInstr_reaches {s s0 s1 t : State} (h0 : Reaches s s0) (h1 : Reaches s s1)
    (h : stepInstr s0 s1 = .next t) : Reaches s t := by
  unfold stepInstr at h
  dsimp only at h
  split at h
  · cases h
  · rename_i i hi
    split at h <;> cases h
    rename_i u hexec
    exact h0.endInstr (h1.fetchInstr.trans (ExecReaches.of_decode hi _ u hexec))

/-- What a step can do to the machine outside the CPU (R640): every branch of it. -/
theorem step_reaches {s t : State} (h : step s = .next t) : Reaches s t := by
  have hbegin : Reaches s s.beginStep := Reaches.refl.info _
  have hsample := hbegin.joypadSample
  unfold step at h
  split at h
  · cases h
    exact .refl
  · dsimp only at h
    split at h
    · cases h
      exact hsample.stoppedStep
    · cases h
      exact hsample.haltedStep
    · split at h
      · cases h
        exact hbegin.dispatchStep hsample
      · exact stepInstr_reaches hbegin hsample h

end Sys2Proof.Machine
end

section
/-! The cartridge along a step (`spec/21_cartridge_mbc.md` R109, R191, R201): no bus write stores into the ROM image, and
of the cartridge a write changes only the values of the MBC registers. -/

namespace Sys2Proof.Machine

/-! ## What a bus write changes of the cartridge -/

/-- Nothing but the values of the MBC registers differs. -/
def RegistersOnly (c d : Cart) : Prop := d = { c with mbc := d.mbc } ∧ d.mbc.variant = c.mbc.variant

theorem RegistersOnly.refl (c : Cart) : RegistersOnly c c := ⟨rfl, rfl⟩

theorem RegistersOnly.trans {c d e : Cart} (h : RegistersOnly c d) (g : RegistersOnly d e) : RegistersOnly c e := by
  obtain ⟨hd, hv⟩ := h
  obtain ⟨he, gv⟩ := g
  refine ⟨?_, gv.trans hv⟩
  rw [he, hd]

theorem RegistersOnly.ramSize {c d : Cart} (h : RegistersOnly c d) : d.ramSize = c.ramSize := by
  rw [h.1]

theorem Cart.registersOnly_mbcWrite (c : Cart) (a : Addr) (v : Byte) : RegistersOnly c (c.mbcWrite a v) := by
  refine ⟨rfl, ?_⟩
  unfold Cart.mbcWrite
  cases c.mbc <;> rfl

theorem Cart.registersOnly_rtcWrite (c : Cart) (r : RtcReg) (v : Byte) : RegistersOnly c (c.rtcWrite r v) := by
  refine ⟨rfl, ?_⟩
  unfold Cart.rtcWrite
  cases c.mbc <;> rfl

theorem State.registersOnly_cartRamWrite (s : State) (a : Addr) (v : Byte) :
    RegistersOnly s.cart (s.cartRamWrite a v).cart := by
  unfold State.cartRamWrite
  split
  case h_4 => exact s.cart.registersOnly_rtcWrite _ v
  all_goals exact .refl _

theorem State.cart_ioWrite (s : State) (r : IoReg) (v : Byte) : (s.ioWrite r v).cart = s.cart := by
  by_cases hr : r = .dma
  · subst hr
    obtain ⟨m, hm, -⟩ := s.startDma_spec v
    show (s.startDma v).cart = s.cart
    rw [hm]
  · obtain ⟨q, t, se, j, p, hw⟩ := s.ioWrite_spec r v hr
    rw [hw]

theorem State.registersOnly_busWrite (s : State) (a : Addr) (v : Byte) : RegistersOnly s.cart (s.busWrite a v).cart := by
  unfold State.busWrite
  split
  case h_1 => exact s.cart.registersOnly_mbcWrite a v
  case h_2 => split <;> exact .refl _
  case h_3 => exact s.registersOnly_cartRamWrite a v
  case h_6 => split <;> exact .refl _
  case h_8 =>
    rw [s.cart_ioWrite]
    exact .refl _
  all_goals exact .refl _

/-! ## Where a bus write stores -/

/-- With at most 128 KiB of cartridge RAM, every byte that a write can store to stands below the image. -/
theorem State.storeAddr_lt_romBase {s : State} {a : Addr} {p : Nat} (hram : s.cart.ramSize ≤ 131072)
    (h : s.storeAddr a = some p) : p < romBase := by
  have ha := a.isLt
  have hbase : romBase = 0x100000 := rfl
  have hram0 : cartRamBase = 0x10000 := rfl
  unfold State.storeAddr at h
  split at h
  case h_2 =>
    split at h
    · rename_i ht
      cases h
      have hin := Cart.target_eq_ram ht
      omega
    · rename_i ht
      cases h
      have hcell := Cart.target_eq_cell ht
      omega
    · cases h
  case h_7 => cases h
  case h_1 | h_5 =>
    split at h <;> cases h
    omega
  all_goals
    have hp := Option.some.inj h
    omega

/-! ## The image and the cartridge are kept -/

/-- The ROM image reads in `t` as in `s`, the memory is in canonical form, and the cartridges differ in the values of
the MBC registers alone. -/
structure ImageKept (s t : State) : Prop where
  wf : t.mem.wf = true
  image : ∀ i, t.byteAt (romBase + i) = s.byteAt (romBase + i)
  cart : RegistersOnly s.cart t.cart

theorem ImageKept.of_eq {s t u : State} (h : ImageKept s t) (hmem : u.mem = t.mem) (hcart : u.cart = t.cart) :
    ImageKept s u where
  wf := hmem ▸ h.wf
  image i := (congrArg (Memory.read · (romBase + i)) hmem).trans (h.image i)
  cart := hcart ▸ h.cart

/-- A bus write stores below the image, so it keeps it (R109). -/
theorem ImageKept.busWrite {s t : State} (h : ImageKept s t) (hram : s.cart.ramSize ≤ 131072) (a : Addr) (v : Byte) :
    ImageKept s (t.busWrite a v) where
  wf := t.wf_busWrite a v h.wf
  image i := by
    have hbase : romBase = 0x100000 := rfl
    refine (t.byteAt_busWrite_other a v h.wf _ (fun hp => ?_) (by omega)).trans (h.image i)
    have hlt := State.storeAddr_lt_romBase (by rw [h.cart.ramSize]; exact hram) hp
    omega
  cart := h.cart.trans (t.registersOnly_busWrite a v)

theorem Reaches.imageKept {s t : State} (h : Reaches s t) (hwf : s.mem.wf = true) (hram : s.cart.ramSize ≤ 131072) :
    ImageKept s t := by
  induction h with
  | refl => exact ⟨hwf, fun _ => rfl, .refl _⟩
  | control _ _ _ _ _ _ _ ih => exact ih.of_eq rfl rfl
  | busWrite _ a v ih => exact ih.busWrite hram a v
  | @advance u _ n ih =>
    obtain ⟨t, se, p, d, q, l, hadv⟩ := advanceDevices_spec n u
    exact ih.of_eq (by rw [hadv]) (by rw [hadv])

/-- Settles O12: a step is bus writes and advances (`step_reaches`), and both keep the image. -/
theorem stepKeepsCartridgeImage : Obligations.StepKeepsCartridgeImage := by
  intro s t hinv hstep
  obtain ⟨-, himage, hcart, hvariant⟩ := (step_reaches hstep).imageKept hinv.mem_wf hinv.ram_size
  exact ⟨himage, hcart, hvariant⟩

end Sys2Proof.Machine
end

section
/-! The encoding: the decoder reads a byte by its fields, the encoder writes it row by row, and the two are inverse
(`spec/30_encoding.md` R260 to R267). -/

namespace Sys2Proof.Machine

/-! ## The fields of an opcode byte (R262) -/

theorem eq_opc_fields (o : Byte) : o = opc (64 * fieldX o + 8 * fieldY o + fieldZ o) := by
  revert o
  decide

theorem fieldX_lt (o : Byte) : fieldX o < 4 := (o.extractLsb' 6 2).isLt

theorem fieldP_eq (o : Byte) : fieldP o = fieldY o / 2 := by
  revert o
  decide

theorem fieldQ_eq (o : Byte) : fieldQ o = decide (fieldY o % 2 = 1) := by
  revert o
  decide

/-- An opcode byte of block `x` by its row `y` and its column `z`. -/
theorem exists_fields {o : Byte} {x : Nat} (hx : fieldX o = x) :
    ∃ y z, y < 8 ∧ z < 8 ∧ fieldY o = y ∧ fieldZ o = z ∧ o = opc (64 * x + 8 * y + z) :=
  ⟨fieldY o, fieldZ o, (o.extractLsb' 3 3).isLt, (o.extractLsb' 0 3).isLt, rfl, rfl, hx ▸ eq_opc_fields o⟩

/-! ## The names that the fields select (R263) -/

theorem eq_codeR_of_r8 {n : Nat} {r : Reg8} (hn : n < 8) (h : r8 n = some r) : n = codeR r := by
  interval_cases n <;> cases h <;> rfl

theorem eq_six_of_r8 {n : Nat} (hn : n < 8) (h : r8 n = none) : n = 6 := by
  revert n
  decide

theorem codeAlu_alu {n : Nat} (hn : n < 8) : codeAlu (alu n) = n := by
  interval_cases n <;> rfl

theorem codeRot_rot {n : Nat} (hn : n < 8) : codeRot (rot n) = n := by
  interval_cases n <;> rfl

theorem idxNat_idx8 {n : Nat} (hn : n < 8) : idxNat (idx8 n) = n := by
  interval_cases n <;> rfl

/-! ## The bytes that the decoder used -/

/-- `i` is written as the first of these bytes, as many as `instrLength` says (R260, R267). -/
def WrittenAs (i : Instr) (o b1 b2 : Byte) : Prop := encode i = [o, b1, b2].take (instrLength o)

/-- R266. The operation or the bit stands in `y` and the operand in `z`. -/
theorem encode_decodeCb (o : Byte) : encode (decodeCb o) = [0xCB, o] := by
  have hlt := fieldX_lt o
  interval_cases hx : fieldX o
  all_goals
    obtain ⟨y, z, hy, hz, hfy, hfz, rfl⟩ := exists_fields hx
    have hrot := codeRot_rot hy
    have hidx := idxNat_idx8 hy
    simp only [decodeCb, hx, hfy, hfz]
    clear hx hfy hfz
    generalize rot y = op at *
    generalize idx8 y = b at *
  · subst hrot
    cases hr : r8 z with
    | some r => obtain rfl := eq_codeR_of_r8 hz hr; cases op <;> cases r <;> rfl
    | none => obtain rfl := eq_six_of_r8 hz hr; cases op <;> rfl
  all_goals
    subst hidx
    cases hr : r8 z with
    | some r => obtain rfl := eq_codeR_of_r8 hz hr; cases b <;> cases r <;> rfl
    | none => obtain rfl := eq_six_of_r8 hz hr; cases b <;> rfl

/-- R265, x = 0: row `y` of column `z`. -/
theorem writtenAs_decodeX0 {o : Byte} (hx : fieldX o = 0) (n : Addr) :
    WrittenAs (decodeX0 o (loByte n) n) o (loByte n) (hiByte n) := by
  obtain ⟨y, z, hy, hz, hfy, hfz, rfl⟩ := exists_fields hx
  simp only [decodeX0, fieldP_eq, fieldQ_eq, hfy, hfz]
  interval_cases z
  all_goals interval_cases y <;> rfl

/-- R265, x = 1: both operands by their codes. -/
theorem writtenAs_decodeX1 {o : Byte} (hx : fieldX o = 1) (b1 b2 : Byte) : WrittenAs (decodeX1 o) o b1 b2 := by
  obtain ⟨y, z, hy, hz, hfy, hfz, rfl⟩ := exists_fields hx
  simp only [decodeX1, hfy, hfz]
  cases hdst : r8 y with
  | some dst =>
    obtain rfl := eq_codeR_of_r8 hy hdst
    cases hsrc : r8 z with
    | some src => obtain rfl := eq_codeR_of_r8 hz hsrc; cases dst <;> cases src <;> rfl
    | none => obtain rfl := eq_six_of_r8 hz hsrc; cases dst <;> rfl
  | none =>
    obtain rfl := eq_six_of_r8 hy hdst
    cases hsrc : r8 z with
    | some src => obtain rfl := eq_codeR_of_r8 hz hsrc; cases src <;> rfl
    | none => obtain rfl := eq_six_of_r8 hz hsrc; rfl

/-- R265, x = 2: the operation and the operand by their codes. -/
theorem writtenAs_decodeX2 {o : Byte} (hx : fieldX o = 2) (b1 b2 : Byte) : WrittenAs (decodeX2 o) o b1 b2 := by
  obtain ⟨y, z, hy, hz, hfy, hfz, rfl⟩ := exists_fields hx
  have halu := codeAlu_alu hy
  simp only [decodeX2, hfy, hfz]
  clear hx hfy hfz
  generalize alu y = op at *
  subst halu
  cases hsrc : r8 z with
  | some src => obtain rfl := eq_codeR_of_r8 hz hsrc; cases op <;> cases src <;> rfl
  | none => obtain rfl := eq_six_of_r8 hz hsrc; cases op <;> rfl

/-- R265, x = 3: row `y` of column `z`, and the 0xCB page at row 1 of column 3. -/
theorem writtenAs_decodeX3 {o : Byte} (hx : fieldX o = 3) (n : Addr) :
    WrittenAs (decodeX3 o (loByte n) n) o (loByte n) (hiByte n) := by
  obtain ⟨y, z, hy, hz, hfy, hfz, rfl⟩ := exists_fields hx
  simp only [decodeX3, fieldP_eq, fieldQ_eq, hfy, hfz]
  interval_cases z
  pick_goal 4 -- column 3
  · interval_cases y
    pick_goal 2 -- row 1: the 0xCB page
    · exact encode_decodeCb _
    all_goals rfl
  all_goals interval_cases y <;> rfl

/-! ## A 16-bit operand by its bytes -/

theorem exists_operand (b1 b2 : Byte) : ∃ n, loByte n = b1 ∧ hiByte n = b2 ∧ word16 b2 b1 = n := by
  have h1 := b1.isLt
  refine ⟨_, BitVec.eq_of_toNat_eq ?_, BitVec.eq_of_toNat_eq ?_, rfl⟩
  · rw [toNat_loByte, toNat_word16]
    omega
  · rw [toNat_hiByte, toNat_word16]
    omega

theorem writtenAs_decodeBytes (o b1 b2 : Byte) : WrittenAs (decodeBytes o b1 b2) o b1 b2 := by
  obtain ⟨n, rfl, rfl, hn⟩ := exists_operand b1 b2
  have hlt := fieldX_lt o
  unfold decodeBytes
  rw [hn]
  interval_cases hx : fieldX o
  · exact writtenAs_decodeX0 hx n
  · exact writtenAs_decodeX1 hx _ _
  · exact writtenAs_decodeX2 hx _ _
  · exact writtenAs_decodeX3 hx n

/-- R501: only `CB CB` is written as `prefix_cb` is, and those two bytes are `SET 1,E`. -/
theorem wellFormed_decodeBytes (o b1 b2 : Byte) : (decodeBytes o b1 b2).WellFormed := by
  intro h
  have hw : [0xCB, 0xCB] = [o, b1, b2].take (instrLength o) :=
    (congrArg encode h).symm.trans (writtenAs_decodeBytes o b1 b2)
  have hstart : [0xCB, 0xCB] <+: [o, b1, b2] := hw ▸ List.take_prefix _ _
  obtain ⟨rfl, rfl⟩ : 0xCB = o ∧ 0xCB = b1 := by simpa using hstart
  have hset : decodeBytes 0xCB 0xCB b2 = .set_1_e := rfl
  cases hset.symm.trans h

/-- Settles O2: given three bytes, the decoder answers `decodeBytes`. -/
theorem everyOpcodeDecodesAndReencodes : Obligations.EveryOpcodeDecodesAndReencodes :=
  fun o b1 b2 _ => ⟨decodeBytes o b1 b2, rfl, wellFormed_decodeBytes o b1 b2, writtenAs_decodeBytes o b1 b2⟩

/-! ## Every instruction from its bytes -/

theorem encodedLength (i : Instr) : Laws.EncodedLength.Statement i := by
  cases i
  case prefix_cb => exact fun h => absurd rfl h
  all_goals exact fun _ => ⟨rfl, rfl⟩

/-- R265 for the opcode byte, the byte after it and a 16-bit operand. -/
def decodeOperands (o b1 : Byte) (n16 : Addr) : Instr :=
  match fieldX o with
  | 0 => decodeX0 o b1 n16
  | 1 => decodeX1 o
  | 2 => decodeX2 o
  | _ => decodeX3 o b1 n16

theorem decodeBytes_halves (o : Byte) (n : Addr) :
    decodeBytes o (loByte n) (hiByte n) = decodeOperands o (loByte n) n :=
  congrArg (decodeOperands o (loByte n)) (word16_hiByte_loByte n)

/-- Each row of the encoder is read back, a 16-bit operand by its two halves. -/
theorem decodeBytes_of_encode {i : Instr} {o : Byte} {bs : List Byte} (hi : i.WellFormed) (h : encode i = o :: bs) :
    decodeBytes o (bs.getD 0 0) (bs.getD 1 0) = i := by
  cases i
  case prefix_cb => exact absurd rfl hi
  case ld_bc_n16 n | ld_atN16_sp n | ld_de_n16 n | ld_hl_n16 n | ld_sp_n16 n | jp_nz_n16 n | jp_n16 n | call_nz_n16 n
      | jp_z_n16 n | call_z_n16 n | call_n16 n | jp_nc_n16 n | call_nc_n16 n | jp_c_n16 n | call_c_n16 n
      | ld_atN16_a n | ld_a_atN16 n =>
    obtain ⟨rfl, rfl⟩ := List.cons.inj h
    exact decodeBytes_halves _ n
  all_goals
    obtain ⟨rfl, rfl⟩ := List.cons.inj h
    rfl

/-- No two instructions are written alike. -/
theorem encode_injective {i j : Instr} (hi : i.WellFormed) (hj : j.WellFormed) (h : encode i = encode j) : i = j := by
  obtain ⟨o, bs, hbytes⟩ : ∃ o bs, encode j = o :: bs :=
    List.exists_cons_of_length_pos (by rw [(encodedLength j hj).2]; exact instrLength_pos _)
  rw [← decodeBytes_of_encode hi (h.trans hbytes), decodeBytes_of_encode hj hbytes]

/-! ## The round trip -/

/-- Given as many bytes as the first one asks for, the decoder reads an instruction that is written as those. -/
theorem exists_decode_of_le_length {o : Byte} {bs : List Byte} (h : instrLength o ≤ (o :: bs).length) :
    ∃ i, decode (o :: bs) = .ok i ∧ i.WellFormed ∧ encode i = (o :: bs).take (instrLength o) := by
  have hle := instrLength_le_three o
  rcases bs with _ | ⟨b1, _ | ⟨b2, rest⟩⟩
  · have hlen : instrLength o = 1 := Nat.le_antisymm h (instrLength_pos o)
    refine ⟨decodeBytes o 0 0, if_pos hlen, wellFormed_decodeBytes o 0 0, ?_⟩
    rw [writtenAs_decodeBytes, hlen]
    rfl
  · refine ⟨decodeBytes o b1 0, if_pos h, wellFormed_decodeBytes o b1 0, ?_⟩
    rw [writtenAs_decodeBytes]
    exact List.take_append_of_le_length (l₁ := [o, b1]) h
  · refine ⟨decodeBytes o b1 b2, rfl, wellFormed_decodeBytes o b1 b2, ?_⟩
    rw [writtenAs_decodeBytes]
    exact (List.take_append_of_le_length (l₁ := [o, b1, b2]) hle).symm

/-- Settles O1: the instruction that the decoder reads is written as `i` is, so it is `i` (`encode_injective`). -/
theorem decodeEncodeRoundTrip : Obligations.DecodeEncodeRoundTrip := by
  intro i rest hi
  obtain ⟨hhead, hlen⟩ := encodedLength i hi
  obtain ⟨bs, hbytes⟩ : ∃ bs, encode i = opcodeOf i :: bs := ⟨_, (List.cons_head?_tail hhead).symm⟩
  have happ : encode i ++ rest = opcodeOf i :: (bs ++ rest) := by rw [hbytes, List.cons_append]
  have hle : instrLength (opcodeOf i) ≤ (opcodeOf i :: (bs ++ rest)).length := by
    rw [← happ, ← hlen, List.length_append]
    exact Nat.le_add_right _ _
  obtain ⟨j, hdecode, hj, hwritten⟩ := exists_decode_of_le_length hle
  rw [← happ, ← hlen, List.take_left] at hwritten
  rw [happ, hdecode, encode_injective hj hi hwritten]

end Sys2Proof.Machine
end

section
/-! What an instruction leaves unchanged: the frames of `Safety.lean`, kept along each update of the registers, along a
data read and along the cost of the instruction. -/

namespace Sys2Proof.Machine

variable {s t : State} {i : Instr} {n : Nat} {l : List Reg8}

/-- An instruction that cannot fault completes in the state it reached, at its cost. -/
theorem Completes.of_done {P : State → Prop} (hexec : exec i s = done n t) (h : P (t.addCycles n)) :
    Completes i s P := ⟨_, hexec, h⟩

/-! ## Everything outside the registers -/

theorem Quiet.refl (s : State) : Quiet 0 s s :=
  ⟨⟨rfl, rfl, rfl, rfl⟩, ⟨rfl, rfl, rfl, rfl, rfl, rfl, rfl⟩, fun _ => rfl, rfl, rfl⟩

theorem Quiet.setReg (h : Quiet n s t) (r : Reg8) (v : Byte) : Quiet n s (t.setReg r v) := by cases r <;> exact h

theorem Quiet.setSp (h : Quiet n s t) (v : Addr) : Quiet n s (t.setSp v) := h

theorem Quiet.setPair (h : Quiet n s t) (p : Rp) (v : Addr) : Quiet n s (t.setPair p v) := by cases p <;> exact h

theorem Quiet.setPair2 (h : Quiet n s t) (p : Rp2) (v : Addr) : Quiet n s (t.setPair2 p v) := by cases p <;> exact h

/-- The draws are the model's own count, not a part of the frame. -/
theorem Quiet.withDraws (h : Quiet n s t) (d : Nat) : Quiet n s { t with draws := d } := h

theorem Quiet.memRead (h : Quiet n s t) (a : Addr) : Quiet n s (t.memRead a).2 := by
  rw [State.memRead_snd]
  exact h

theorem Quiet.addCycles (h : Quiet 0 s t) (m : Nat) : Quiet m s (t.addCycles m) := by
  obtain ⟨hcontrol, hdevices, hmem, hfault, hinfo⟩ := h
  exact ⟨hcontrol, hdevices, hmem, hfault, by simp [hinfo]⟩

/-! ## The registers -/

theorem RegsKept.refl (l : List Reg8) (s : State) : RegsKept l s s := fun _ _ => rfl

theorem RegsKept.of_cpu_eq (h : t.cpu = s.cpu) : RegsKept l s t := fun r _ => by
  unfold State.reg
  rw [h]

theorem RegsKept.setReg (h : RegsKept l s t) {r : Reg8} (v : Byte) (hr : r ∈ l) : RegsKept l s (t.setReg r v) :=
  fun q hq => (t.reg_setReg_ne r q v fun hqr => hq (hqr ▸ hr)).trans (h q hq)

theorem RegsKept.setSp (h : RegsKept l s t) (v : Addr) : RegsKept l s (t.setSp v) :=
  fun q hq => (t.reg_setSp v q).trans (h q hq)

theorem RegsKept.setFlags (h : RegsKept l s t) (f : Flags) : RegsKept l s (t.setFlags f) :=
  fun q hq => (t.reg_setFlags f q).trans (h q hq)

theorem RegsKept.memRead (h : RegsKept l s t) (a : Addr) : RegsKept l s (t.memRead a).2 :=
  fun q hq => (t.reg_memRead a q).trans (h q hq)

theorem RegsKept.addCycles (h : RegsKept l s t) (m : Nat) : RegsKept l s (t.addCycles m) :=
  fun q hq => (t.reg_addCycles m q).trans (h q hq)

/-- A write to a pair writes its two halves. -/
theorem RegsKept.setPair (h : RegsKept l s t) {p : Rp} (v : Addr) (hp : regsOfRp p ⊆ l) :
    RegsKept l s (t.setPair p v) := by
  cases p with
  | sp => exact h.setSp v
  | bc | de | hl => exact (h.setReg _ (hp (by decide))).setReg _ (hp (by decide))

/-- What `POP` writes, F being no 8-bit register of `Reg8`. -/
theorem RegsKept.setPair2 (h : RegsKept l s t) {p : Rp2} (v : Addr) (hp : regsOfRp2 p ⊆ l) :
    RegsKept l s (t.setPair2 p v) := by
  cases p with
  | bc => exact h.setPair (p := .bc) v hp
  | de => exact h.setPair (p := .de) v hp
  | hl => exact h.setPair (p := .hl) v hp
  | af => exact (h.setReg _ (hp (by decide))).setFlags _

/-! ## The CPU outside some registers, SP and PC -/

theorem CpuKept.of_cpu_eq (h : t.cpu = s.cpu) : CpuKept l s t := by
  refine ⟨.of_cpu_eq h, congrArg Cpu.flags h, ?_⟩
  unfold ControlKept
  rw [h]
  exact ⟨rfl, rfl, rfl, rfl⟩

theorem CpuKept.setSp (h : CpuKept l s t) (v : Addr) : CpuKept l s (t.setSp v) := by
  obtain ⟨hregs, hrest⟩ := h
  exact ⟨hregs.setSp v, hrest⟩

theorem CpuKept.addCycles (h : CpuKept l s t) (m : Nat) : CpuKept l s (t.addCycles m) := by
  obtain ⟨hregs, hrest⟩ := h
  exact ⟨hregs.addCycles m, hrest⟩

theorem CpuKept.setPair (h : CpuKept l s t) {p : Rp} (v : Addr) (hp : regsOfRp p ⊆ l) :
    CpuKept l s (t.setPair p v) := by
  obtain ⟨hregs, hrest⟩ := h
  exact ⟨hregs.setPair v hp, by cases p <;> exact hrest⟩

end Sys2Proof.Machine
end

section
/-! What one and two bus writes make of the state (`spec/20_memory.md` R101, R104), whatever the instruction makes of
the CPU. -/

namespace Sys2Proof.Machine

variable {s t : State} {n : Nat} {a a1 a2 : Addr} {v v1 v2 : Byte}

/-! ## One write -/

theorem StoresByte.of_busWrite (s : State) (a : Addr) (v : Byte) (h : s.mem.wf = true) :
    StoresByte 0 a v s (s.busWrite a v) :=
  ⟨fun p hp => s.byteAt_busWrite_same a v h p hp, fun p hp hoam => s.byteAt_busWrite_other a v h p hp hoam,
    ⟨rfl, rfl, rfl, rfl, rfl, rfl, rfl⟩, s.draws_busWrite a v, s.fault_busWrite a v, s.info_busWrite a v⟩

theorem StoresByte.setPair (h : StoresByte n a v s t) (p : Rp) (x : Addr) : StoresByte n a v s (t.setPair p x) := by
  cases p <;> exact h

theorem StoresByte.addCycles (h : StoresByte 0 a v s t) (m : Nat) : StoresByte m a v s (t.addCycles m) := by
  obtain ⟨hsame, hother, hdevices, hdraws, hfault, hinfo⟩ := h
  exact ⟨hsame, hother, hdevices, hdraws, hfault, by simp [hinfo]⟩

/-! ## Two writes -/

theorem StoresTwo.of_busWrite (s : State) (a1 : Addr) (v1 : Byte) (a2 : Addr) (v2 : Byte) (h : s.mem.wf = true) :
    StoresTwo 0 a1 v1 a2 v2 s ((s.busWrite a1 v1).busWrite a2 v2) := by
  have hwf : (s.busWrite a1 v1).mem.wf = true := s.wf_busWrite a1 v1 h
  refine ⟨fun p hp => ?_, fun p h1 h2 hoam => ?_, fun p h1 h2 hoam1 hoam2 => ?_, ⟨rfl, rfl, rfl, rfl, rfl, rfl, rfl⟩,
    ?_, ?_, ?_⟩
  · exact State.byteAt_busWrite_same _ a2 v2 hwf p hp
  · rw [State.byteAt_busWrite_other _ a2 v2 hwf p h2 hoam, s.byteAt_busWrite_same a1 v1 h p h1]
  · rw [State.byteAt_busWrite_other _ a2 v2 hwf p h2 hoam2, s.byteAt_busWrite_other a1 v1 h p h1 hoam1]
  · exact (State.draws_busWrite _ a2 v2).trans (s.draws_busWrite a1 v1)
  · exact (State.fault_busWrite _ a2 v2).trans (s.fault_busWrite a1 v1)
  · rw [State.info_busWrite, State.info_busWrite]
    rfl

theorem StoresTwo.setSp (h : StoresTwo n a1 v1 a2 v2 s t) (x : Addr) : StoresTwo n a1 v1 a2 v2 s (t.setSp x) := h

theorem StoresTwo.addCycles (h : StoresTwo 0 a1 v1 a2 v2 s t) (m : Nat) :
    StoresTwo m a1 v1 a2 v2 s (t.addCycles m) := by
  obtain ⟨hsecond, hfirst, hother, hdevices, hdraws, hfault, hinfo⟩ := h
  exact ⟨hsecond, hfirst, hother, hdevices, hdraws, hfault, by simp [hinfo]⟩

/-- The address after a written one stays free, for FF46, whose write starts OAM DMA, is above the bus that it holds. -/
theorem State.dmaHolds_next_busWrite_free (s : State) {a : Addr} (v : Byte) (h : s.dmaHolds (a + 1) = false) :
    (s.busWrite a v).dmaHolds (a + 1) = false := by
  by_cases ha : a = 0xFF46
  · rw [ha, Bool.eq_false_iff]
    exact fun hheld => absurd ((State.dmaHolds_iff _ _).mp hheld).2 (by decide)
  · exact (State.dmaHolds_congr (s.dma_busWrite a v ha) _).trans h

end Sys2Proof.Machine
end

section
/-! The loads and stores of a byte (`spec/40_loads.md` R300 to R318): their encodings, and each operand form by the
frames it keeps. -/

namespace Sys2Proof.Machine

/-! ## Encodings -/

theorem encode_ldRR (dst src : Reg8) : encode (.ldRR dst src) = [opc (64 + 8 * codeR dst + codeR src)] := by
  cases dst <;> cases src <;> rfl

theorem encode_ldRN (dst : Reg8) (n : Byte) : encode (.ldRN dst n) = [opc (6 + 8 * codeR dst), n] := by
  cases dst <;> rfl

theorem encode_ldRHL (r : Reg8) : encode (.ldRHL r) = [opc (70 + 8 * codeR r)] := by cases r <;> rfl

theorem encode_ldHLR (r : Reg8) : encode (.ldHLR r) = [opc (112 + codeR r)] := by cases r <;> rfl

/-! ## Words written out -/

theorem decode_of_encode {i : Instr} {bytes : List Byte} (hi : i.WellFormed) (h : encode i = bytes) :
    decode bytes = .ok i := by
  rw [← h, ← List.append_nil (encode i)]
  exact decodeEncodeRoundTrip i [] hi

/-- Settles O3: each word is the encoding of its instruction, so the round trip reads it back. -/
theorem decodeReadsWrittenWords : Obligations.DecodeReadsWrittenWords := by
  unfold Obligations.DecodeReadsWrittenWords
  and_intros <;> exact decode_of_encode (by decide) rfl

/-! ## Registers -/

/-- A register written from the CPU alone: nothing else differs but the cost. -/
theorem registerOnly_setReg (s : State) (r : Reg8) (v : Byte) (n : Nat) :
    RegisterOnly n s ((s.setReg r v).addCycles n) :=
  ⟨s.cpu_sp_setReg r v, s.cpu_pc_setReg r v, s.draws_setReg r v, ((Quiet.refl s).setReg r v).addCycles n⟩

theorem Completes.of_setReg {i : Instr} {s : State} {r : Reg8} {v : Byte} {n : Nat}
    (h : exec i s = done n (s.setReg r v)) :
    Completes i s fun t => t.reg r = v ∧ RegsKept [r] s t ∧ FlagsKept s t ∧ RegisterOnly n s t :=
  .of_done h ⟨(State.reg_addCycles _ n r).trans (s.reg_setReg_same r v),
    ((RegsKept.refl [r] s).setReg v List.mem_cons_self).addCycles n, s.flags_setReg r v, registerOnly_setReg s r v n⟩

/-- Settles O16: both forms write one register (`Completes.of_setReg`). -/
theorem loadFromRegisterOrImmediate : Obligations.LoadFromRegisterOrImmediate :=
  ⟨fun dst src => ⟨encode_ldRR dst src, fun s => .of_setReg (exec_ldRR dst src s)⟩,
    fun dst n => ⟨encode_ldRN dst n, fun s => .of_setReg (exec_ldRN dst n s)⟩⟩

/-! ## Loads from memory -/

/-- The addresses of the `LDH` and `LD (C)` forms as numbers (R264). -/
theorem highPage_eq_add (n : Byte) : highPage n = BitVec.ofNat 16 (0xFF00 + n.toNat) := by
  apply BitVec.eq_of_toNat_eq
  simp [highPage, zext16]

theorem LoadsInto.of_loadReg {i : Instr} {r : Reg8} {a : State → Addr} {n : Nat}
    (h : ∀ s, exec i s = loadReg r (a s) n s) : LoadsInto i r a n := by
  refine fun s => .of_done (h s) ⟨?_, ?_, ?_, ?_, ?_, ?_, ?_⟩
  · exact (State.reg_addCycles _ n r).trans (State.reg_setReg_same _ r _)
  · exact (((RegsKept.refl [r] s).memRead (a s)).setReg _ List.mem_cons_self).addCycles n
  · exact (State.flags_setReg _ r _).trans (s.flags_memRead (a s))
  · exact (State.cpu_sp_setReg _ r _).trans (congrArg Cpu.sp (s.cpu_memRead (a s)))
  · exact (State.cpu_pc_setReg _ r _).trans (congrArg Cpu.pc (s.cpu_memRead (a s)))
  · exact State.draws_setReg _ r _
  · exact (((Quiet.refl s).memRead (a s)).setReg r _).addCycles n

/-- Settles O17: each load by `LoadsInto.of_loadReg`, with the address of its operand form. -/
theorem loadFromMemory : Obligations.LoadFromMemory :=
  ⟨fun r => ⟨encode_ldRHL r, .of_loadReg (exec_ldRHL r)⟩, ⟨rfl, .of_loadReg fun _ => rfl⟩,
    ⟨rfl, .of_loadReg fun _ => rfl⟩, fun _ => ⟨rfl, .of_loadReg fun _ => rfl⟩,
    fun n => ⟨rfl, .of_loadReg fun _ => highPage_eq_add n ▸ rfl⟩,
    ⟨rfl, .of_loadReg fun s => highPage_eq_add (s.reg .c) ▸ rfl⟩⟩

/-! ## Stores to memory -/

theorem StoresFrom.of_storeByte {i : Instr} {a : State → Addr} {v : State → Byte} {n : Nat}
    (h : ∀ s, exec i s = storeByte (opcodeOf i) (a s) (v s) n s) : StoresFrom i a v n :=
  fun s hwf hfree => ⟨_, (h s).trans (storeByte_ok s _ _ _ n hfree),
    s.cpu_busWrite (a s) (v s), (StoresByte.of_busWrite s (a s) (v s) hwf).addCycles n⟩

/-- Settles O18: each store by `StoresFrom.of_storeByte`, with the address of its operand form. -/
theorem storeToMemory : Obligations.StoreToMemory :=
  ⟨fun r => ⟨encode_ldHLR r, .of_storeByte (exec_ldHLR r)⟩, fun _ => ⟨rfl, .of_storeByte fun _ => rfl⟩,
    ⟨rfl, .of_storeByte fun _ => rfl⟩, ⟨rfl, .of_storeByte fun _ => rfl⟩, fun _ => ⟨rfl, .of_storeByte fun _ => rfl⟩,
    fun n => ⟨rfl, .of_storeByte fun _ => highPage_eq_add n ▸ rfl⟩,
    ⟨rfl, .of_storeByte fun s => highPage_eq_add (s.reg .c) ▸ rfl⟩⟩

/-! ## Transfers that step HL -/

/-- `LD A,(HL+)` and `LD A,(HL-)`: HL is read before it is stepped. -/
theorem Completes.of_loadStepHL {i : Instr} {s : State} {delta : Addr} (h : exec i s = loadStepHL delta s) :
    Completes i s fun t =>
      t.reg .a = (s.memRead (s.pair .hl)).1 ∧ t.pair .hl = s.pair .hl + delta ∧ RegsKept [.a, .h, .l] s t
        ∧ FlagsKept s t ∧ ReadsOnly 8 (s.pair .hl) s t := by
  have hsp : (s.memRead s.hl).2.cpu.sp = s.cpu.sp := by rw [State.cpu_memRead]
  have hpc : (s.memRead s.hl).2.cpu.pc = s.cpu.pc := by rw [State.cpu_memRead]
  refine .of_done h ⟨?_, ?_, ?_, ?_, ?_, ?_, ?_, ?_⟩
  · exact (State.reg_a_setPair _ .hl _).trans (State.reg_setReg_same _ .a _)
  · exact (State.pair_setPair _ .hl .hl _).trans (if_pos rfl)
  · exact ((((RegsKept.refl _ s).memRead _).setReg _ (by decide)).setPair _ (by decide)).addCycles 8
  · exact s.flags_memRead _
  · exact hsp
  · exact hpc
  · rfl
  · exact ((((Quiet.refl s).memRead _).setReg _ _).setPair .hl _).addCycles 8

theorem storeStepHL_ok (s : State) (op : Byte) (delta : Addr) (h : s.dmaHolds s.hl = false) :
    storeStepHL op delta s = .next (((s.busWrite s.hl (s.reg .a)).setPair .hl (s.hl + delta)).addCycles 8) := by
  rw [storeStepHL, State.memWrite_ok _ _ _ _ h]
  rfl

/-- `LD (HL+),A` and `LD (HL-),A`: the write is to HL before it is stepped. -/
theorem Completes.of_storeStepHL {i : Instr} {s : State} {op : Byte} {delta : Addr}
    (h : exec i s = storeStepHL op delta s) (hwf : s.mem.wf = true) (hfree : s.dmaHolds (s.pair .hl) = false) :
    Completes i s fun t =>
      t.pair .hl = s.pair .hl + delta ∧ CpuKept [.h, .l] s t ∧ SpKept s t ∧ PcKept s t
        ∧ StoresByte 8 (s.pair .hl) (s.reg .a) s t := by
  have hcpu : (s.busWrite s.hl (s.reg .a)).cpu = s.cpu := s.cpu_busWrite _ _
  have hsp := congrArg Cpu.sp hcpu
  have hpc := congrArg Cpu.pc hcpu
  refine ⟨_, h.trans (storeStepHL_ok s op delta hfree), ?_, ?_, hsp, hpc, ?_⟩
  · exact (State.pair_setPair _ .hl .hl _).trans (if_pos rfl)
  · exact ((CpuKept.of_cpu_eq hcpu).setPair _ (by decide)).addCycles 8
  · exact ((StoresByte.of_busWrite s _ _ hwf).setPair .hl _).addCycles 8

theorem addr_add_neg_one (x : Addr) : x + -1 = x - 1 := (BitVec.sub_eq_add_neg x 1).symm

/-- Settles O20: the loads by `Completes.of_loadStepHL`, the stores by `Completes.of_storeStepHL`. -/
theorem loadAndStoreThenStepHL : Obligations.LoadAndStoreThenStepHL := by
  refine ⟨⟨rfl, rfl, rfl, rfl⟩, fun s => .of_loadStepHL rfl, fun s => ?_,
    fun s hwf hfree => .of_storeStepHL rfl hwf hfree, fun s hwf hfree => ?_⟩
  · rw [← addr_add_neg_one]
    exact .of_loadStepHL rfl
  · rw [← addr_add_neg_one]
    exact .of_storeStepHL rfl hwf hfree

end Sys2Proof.Machine
end

section
/-! The 16-bit loads and the stack (`spec/40_loads.md` R320 to R335): two bus writes, or two reads, under one frame. -/

namespace Sys2Proof.Machine

/-! ## Encodings -/

theorem encode_ldRpN (p : Rp) (n : Addr) : encode (.ldRpN p n) = [opc (1 + 16 * codeRp p), loByte n, hiByte n] := by
  cases p <;> rfl

theorem encode_push (p : Rp2) : encode (.push p) = [opc (197 + 16 * codeRp2 p)] := by cases p <;> rfl

theorem encode_pop (p : Rp2) : encode (.pop p) = [opc (193 + 16 * codeRp2 p)] := by cases p <;> rfl

/-! ## `LD rr,n16`, `LD SP,HL`, `LD (n16),SP` -/

theorem storeSp_ok (s : State) (op : Byte) (a : Addr) (h1 : s.dmaHolds a = false) (h2 : s.dmaHolds (a + 1) = false) :
    storeSp op a s =
      .next (((s.busWrite a (loByte s.cpu.sp)).busWrite (a + 1) (hiByte s.cpu.sp)).addCycles 20) := by
  rw [storeSp, State.memWrite_ok _ _ _ _ h1]
  dsimp only
  rw [State.memWrite_ok _ _ _ _ (s.dmaHolds_next_busWrite_free _ h2)]
  rfl

/-- Settles O21: the loads write one pair, the store is two bus writes. -/
theorem sixteenBitLoads : Obligations.SixteenBitLoads := by
  refine ⟨fun p n => ⟨encode_ldRpN p n, fun s => ?_⟩, ⟨rfl, fun s => ?_⟩,
    fun n => ⟨rfl, fun s hwf h1 h2 => ?_⟩⟩
  · refine .of_done (exec_ldRpN p n s) ⟨?_, ?_, ?_, ?_, ?_, ?_⟩
    · exact (State.pair_addCycles _ 12 p).trans ((s.pair_setPair p p n).trans (if_pos rfl))
    · exact ((CpuKept.of_cpu_eq rfl).setPair n (List.Subset.refl _)).addCycles 12
    · exact s.cpu_sp_setPair p n
    · exact s.cpu_pc_setPair p n
    · exact s.draws_setPair p n
    · exact ((Quiet.refl s).setPair p n).addCycles 12
  · exact .of_done rfl ⟨rfl, ((CpuKept.of_cpu_eq rfl).setSp _).addCycles 8, rfl, rfl,
      ((Quiet.refl s).setSp _).addCycles 8⟩
  · exact ⟨_, storeSp_ok s 0x08 n h1 h2, (State.cpu_busWrite _ _ _).trans (s.cpu_busWrite _ _),
      (StoresTwo.of_busWrite s _ _ _ _ hwf).addCycles 20⟩

/-! ## The stack -/

/-- Settles O22: the two writes of `push16_ok`, with SP moved. -/
theorem pushStoresPairBelowStack : Obligations.PushStoresPairBelowStack := by
  refine fun p => ⟨encode_push p, fun s hwf hstack => ?_⟩
  obtain ⟨h1, h2⟩ := hstack
  have hcpu := (State.cpu_busWrite _ (s.cpu.sp - 2) (loByte (s.pair2 p))).trans
    (s.cpu_busWrite (s.cpu.sp - 1) (hiByte (s.pair2 p)))
  have hpc := congrArg Cpu.pc hcpu
  have hexec := exec_push p s
  rw [pushPair, s.push16_ok _ _ h1 h2] at hexec
  refine ⟨_, hexec, ⟨?_, rfl⟩, ?_, hpc⟩
  · exact ((StoresTwo.of_busWrite s _ _ _ _ hwf).setSp _).addCycles 16
  · exact ((CpuKept.of_cpu_eq hcpu).setSp _).addCycles 16

theorem State.pair2_addCycles (s : State) (n : Nat) (p : Rp2) : (s.addCycles n).pair2 p = s.pair2 p := by
  cases p <;> rfl

theorem State.flags_setPair2_of_ne (s : State) {p : Rp2} (v : Addr) (h : p ≠ .af) :
    (s.setPair2 p v).flags = s.flags := by
  cases p
  case af => exact absurd rfl h
  all_goals rfl

/-- `pair2_setPair2` at the written pair, the mask of F spelled for every pair. -/
theorem State.pair2_setPair2_same (s : State) (p : Rp2) (v : Addr) :
    (s.setPair2 p v).pair2 p = v &&& if p = .af then 0xFFF0 else 0xFFFF := by
  rw [State.pair2_setPair2, if_pos rfl]
  split_ifs
  · rfl
  · exact (BitVec.and_allOnes (x := v)).symm

/-- Settles O23: the pop of `pop16_spec`, which moves SP, and then the write of the pair. -/
theorem popLoadsPairFromStack : Obligations.PopLoadsPairFromStack := by
  refine fun p => ⟨encode_pop p, fun s => ?_⟩
  have hexec := exec_pop p s
  rw [popPair, s.pop16_spec] at hexec
  refine .of_done hexec ⟨?_, ?_, ?_, ?_, ?_, ?_, ?_⟩
  · exact (State.pair2_addCycles _ 12 p).trans (State.pair2_setPair2_same _ p _)
  · exact State.cpu_sp_setPair2 _ p _
  · exact (((RegsKept.of_cpu_eq rfl).setSp _).setPair2 _ (List.Subset.refl _)).addCycles 12
  · exact State.flags_setPair2_of_ne _ _
  · exact State.cpu_pc_setPair2 _ p _
  · exact State.draws_setPair2 _ p _
  · exact ((((Quiet.refl s).withDraws _).setSp _).setPair2 p _).addCycles 12

end Sys2Proof.Machine
end

section
/-! Instructions that write a register, or the byte at HL, and the flags: their frames, whatever the operation. -/

namespace Sys2Proof.Machine

variable {s t : State} {i : Instr} {n : Nat} {P : Byte → Flags → Prop}

theorem Completes.mono {P Q : State → Prop} (h : Completes i s P) (hPQ : ∀ t, P t → Q t) : Completes i s Q := by
  obtain ⟨t, hexec, ht⟩ := h
  exact ⟨t, hexec, hPQ t ht⟩

theorem Quiet.setFlags (h : Quiet n s t) (f : Flags) : Quiet n s (t.setFlags f) := h

theorem StoresByte.setFlags {a : Addr} {v : Byte} (h : StoresByte n a v s t) (f : Flags) :
    StoresByte n a v s (t.setFlags f) := h

/-- A register and the flags written from the CPU alone. -/
theorem Completes.of_setReg_setFlags {r : Reg8} {v : Byte} {f : Flags}
    (hexec : exec i s = done n ((s.setReg r v).setFlags f)) (hP : P v f) :
    Completes i s fun t => P (t.reg r) t.flags ∧ RegsKept [r] s t ∧ RegisterOnly n s t := by
  refine .of_done hexec ⟨?_, ?_, registerOnly_setReg s r v n⟩
  · simpa using hP
  · exact (((RegsKept.refl [r] s).setReg v List.mem_cons_self).setFlags f).addCycles n

/-- A register and the flags written after one data read. -/
theorem Completes.of_memRead_setReg_setFlags {a : Addr} {r : Reg8} {v : Byte} {f : Flags}
    (hexec : exec i s = done n (((s.memRead a).2.setReg r v).setFlags f)) (hP : P v f) :
    Completes i s fun t => P (t.reg r) t.flags ∧ RegsKept [r] s t ∧ ReadsOnly n a s t := by
  have hcpu : (s.memRead a).2.cpu = s.cpu := s.cpu_memRead a
  refine .of_done hexec ⟨?_, ?_, ?_, ?_, ?_, ?_⟩
  · simpa using hP
  · exact ((((RegsKept.refl [r] s).memRead a).setReg v List.mem_cons_self).setFlags f).addCycles n
  · exact (State.cpu_sp_setReg _ r v).trans (congrArg Cpu.sp hcpu)
  · exact (State.cpu_pc_setReg _ r v).trans (congrArg Cpu.pc hcpu)
  · exact State.draws_setReg _ r v
  · exact ((((Quiet.refl s).memRead a).setReg r v).setFlags f).addCycles n

/-- Only the flags written. -/
theorem Completes.of_setFlags {f : Flags} (hexec : exec i s = done n (s.setFlags f)) :
    Completes i s fun t => t.flags = f ∧ RegsKept [] s t ∧ RegisterOnly n s t :=
  .of_done hexec ⟨rfl, ((RegsKept.refl [] s).setFlags f).addCycles n, rfl, rfl, rfl,
    ((Quiet.refl s).setFlags f).addCycles n⟩

theorem Completes.of_updReg {op : Byte → Flags → AluResult} {r : Reg8} (hexec : exec i s = updReg op r n s)
    (hP : P (op (s.reg r) s.flags).value (op (s.reg r) s.flags).flags) :
    Completes i s fun t => P (t.reg r) t.flags ∧ RegsKept [r] s t ∧ RegisterOnly n s t :=
  .of_setReg_setFlags hexec hP

/-- Read, compute and write back where OAM DMA leaves HL free: the store is in the state after the read. -/
theorem Completes.of_updMem {op : Byte → Flags → AluResult} {o : Byte} (hexec : exec i s = updMem o op n s)
    (hwf : s.mem.wf = true) (hfree : s.dmaHolds (s.pair .hl) = false)
    (hP : P (op (s.memRead (s.pair .hl)).1 s.flags).value (op (s.memRead (s.pair .hl)).1 s.flags).flags) :
    Completes i s fun t => ∃ v,
      P v t.flags ∧ StoresByte n (s.pair .hl) v (s.memRead (s.pair .hl)).2 t ∧ RegsKept [] s t ∧ SpKept s t
        ∧ PcKept s t ∧ ControlKept s t := by
  have hwf' : (s.memRead s.hl).2.mem.wf = true := by rwa [State.mem_memRead]
  have hcpu : ((s.memRead s.hl).2.busWrite s.hl (op (s.memRead s.hl).1 s.flags).value).cpu = s.cpu :=
    (State.cpu_busWrite _ _ _).trans (s.cpu_memRead _)
  have hsp := congrArg Cpu.sp hcpu
  have hpc := congrArg Cpu.pc hcpu
  obtain ⟨hregs, -, hime, hdelay, hmode, hbug⟩ : CpuKept [] s _ := .of_cpu_eq hcpu
  exact ⟨_, hexec.trans (updMem_ok s o op n hfree), _, hP,
    ((StoresByte.of_busWrite _ _ _ hwf').setFlags _).addCycles n, (hregs.setFlags _).addCycles n, hsp, hpc, hime,
    hdelay, hmode, hbug⟩

end Sys2Proof.Machine
end

section
/-! The 8-bit operations over the natural numbers (`spec/41_alu8.md` R351 to R380). -/

namespace Sys2Proof.Machine

theorem byte_beq (v k : Byte) : (v == k) = decide (v.toNat = k.toNat) := by
  rw [beq_eq_decide, decide_eq_decide]
  exact BitVec.toNat_eq

theorem byte_beq_zero (v : Byte) : (v == 0) = decide (v.toNat = 0) := byte_beq v 0

theorem toNat_eq_bitNat (b : Bool) : b.toNat = bitNat b := by cases b <;> rfl

@[simp] theorem bitNat_false : bitNat false = 0 := rfl

@[simp] theorem bitNat_true : bitNat true = 1 := rfl

theorem bitNat_le_one (b : Bool) : bitNat b ≤ 1 := by cases b <;> decide

/-! ## Addition and subtraction with a carry in -/

theorem toNat_value_add8 (a v : Byte) (cin : Bool) :
    (add8 a v cin).value.toNat = (a.toNat + v.toNat + bitNat cin) % 256 := by
  simp [add8, toNat_eq_bitNat]

theorem flags_add8 (a v : Byte) (cin : Bool) :
    (add8 a v cin).flags =
      { z := decide ((add8 a v cin).value.toNat = 0), n := false,
        h := decide (15 < a.toNat % 16 + v.toNat % 16 + bitNat cin),
        c := decide (255 < a.toNat + v.toNat + bitNat cin) } := by
  simp only [add8, byte_beq_zero, toNat_and_0f, toNat_eq_bitNat, gt_iff_lt]

theorem toNat_value_sub8 (a v : Byte) (cin : Bool) :
    (sub8 a v cin).value.toNat = (512 + a.toNat - v.toNat - bitNat cin) % 256 := by
  have ha := a.isLt
  have hv := v.isLt
  have hc := bitNat_le_one cin
  simp only [sub8, BitVec.toNat_ofInt, toNat_eq_bitNat]
  omega

theorem flags_sub8 (a v : Byte) (cin : Bool) :
    (sub8 a v cin).flags =
      { z := decide ((sub8 a v cin).value.toNat = 0), n := true,
        h := decide (a.toNat % 16 < v.toNat % 16 + bitNat cin),
        c := decide (a.toNat < v.toNat + bitNat cin) } := by
  simp only [sub8, byte_beq_zero, toNat_and_0f, toNat_eq_bitNat, Flags.mk.injEq, decide_eq_decide, true_and]
  omega

theorem flags_logic8 (v : Byte) (h : Bool) :
    (logic8 v h).flags = { z := decide (v.toNat = 0), n := false, h := h, c := false } := by
  simp only [logic8, byte_beq_zero]

/-! ## The eight operations, `INC`, `DEC` -/

/-- A `SUB` without a carry in is 0 exactly for equal bytes, which is the Z of `CP` (R373). -/
theorem value_sub8_eq_zero_iff (a v : Byte) : (sub8 a v false).value.toNat = 0 ↔ a.toNat = v.toNat := by
  have ha := a.isLt
  have hv := v.isLt
  rw [toNat_value_sub8, bitNat_false]
  omega

theorem aluEffect_alu8 (op : AluOp) (a v : Byte) (f : Flags) :
    AluEffect op a v f (alu8 op a v f).value (alu8 op a v f).flags := by
  cases op with
  | add => exact ⟨toNat_value_add8 a v false, flags_add8 a v false⟩
  | adc => exact ⟨toNat_value_add8 a v f.c, flags_add8 a v f.c⟩
  | sub =>
    refine ⟨(toNat_value_sub8 a v false).trans ?_, flags_sub8 a v false⟩
    have hv := v.isLt
    rw [bitNat_false]
    omega
  | sbc => exact ⟨toNat_value_sub8 a v f.c, flags_sub8 a v f.c⟩
  | and => exact ⟨fun k _ => BitVec.getLsbD_and, flags_logic8 _ true⟩
  | xor => exact ⟨fun k _ => BitVec.getLsbD_xor, flags_logic8 _ false⟩
  | or => exact ⟨fun k _ => BitVec.getLsbD_or, flags_logic8 _ false⟩
  | cp =>
    refine ⟨rfl, (flags_sub8 a v false).trans ?_⟩
    simp only [value_sub8_eq_zero_iff]
    rfl

theorem nibble_beq (v k : Byte) : (v &&& 0x0F == k) = decide (v.toNat % 16 = k.toNat) := by
  rw [byte_beq, toNat_and_0f]

theorem incEffect_inc8 (v : Byte) (f : Flags) : IncEffect v f (inc8 v f).value (inc8 v f).flags := by
  have hv := v.isLt
  have hvalue : (v + 1).toNat = (v.toNat + 1) % 256 := BitVec.toNat_add v 1
  refine ⟨hvalue, ?_⟩
  have hzero : (v + 1).toNat = 0 ↔ v.toNat = 255 := by omega
  simp only [inc8, nibble_beq, byte_beq_zero (v + 1), hzero]
  rfl

theorem decEffect_dec8 (v : Byte) (f : Flags) : DecEffect v f (dec8 v f).value (dec8 v f).flags := by
  have hv := v.isLt
  have hvalue : (v - 1).toNat = (v.toNat + 255) % 256 :=
    (BitVec.toNat_sub v 1).trans (congrArg (· % 256) (Nat.add_comm 255 v.toNat))
  refine ⟨hvalue, ?_⟩
  have hzero : (v - 1).toNat = 0 ↔ v.toNat = 1 := by omega
  simp only [dec8, nibble_beq, byte_beq_zero (v - 1), hzero]
  rfl

/-! ## `DAA` -/

theorem toNat_0x60 : (0x60 : Byte).toNat = 0x60 := rfl

theorem toNat_0x06 : (0x06 : Byte).toNat = 0x06 := rfl

theorem toNat_ite_add (b : Bool) (v k : Byte) :
    (if b then v + k else v).toNat = (v.toNat + if b then k.toNat else 0) % 256 := by
  have hv := v.isLt
  cases b
  · exact (Nat.mod_eq_of_lt hv).symm
  · exact BitVec.toNat_add v k

theorem toNat_ite_sub (b : Bool) (v k : Byte) :
    (if b then v - k else v).toNat = (256 + v.toNat - k.toNat * bitNat b) % 256 := by
  have hv := v.isLt
  have hk := k.isLt
  cases b
  · simp [bitNat, Nat.mod_eq_of_lt hv]
  · simp only [if_true, BitVec.toNat_sub, bitNat]
    omega

/-- The correction of the high digit keeps the low one, so that both tests of R380 may be made on A before. -/
theorem toNat_ite_add_0x60_mod_16 (b : Bool) (v : Byte) : (if b then v + 0x60 else v).toNat % 16 = v.toNat % 16 := by
  rw [toNat_ite_add]
  cases b
  · simp
  · simp only [if_true, toNat_0x60]
    omega

theorem daa8_of_sub (a : Byte) {f : Flags} (hn : f.n = true) :
    (daa8 a f).value.toNat = (512 + a.toNat - 0x60 * bitNat f.c - 0x06 * bitNat f.h) % 256
      ∧ (daa8 a f).flags = { z := decide ((daa8 a f).value.toNat = 0), n := true, h := false, c := f.c } := by
  have ha := a.isLt
  have hc := bitNat_le_one f.c
  have hh := bitNat_le_one f.h
  simp only [daa8, if_pos hn]
  refine ⟨?_, by rw [byte_beq_zero]⟩
  rw [toNat_ite_sub, toNat_ite_sub, toNat_0x60, toNat_0x06]
  omega

theorem daa8_of_add (a : Byte) {f : Flags} (hn : f.n ≠ true) :
    (daa8 a f).value.toNat = (a.toNat + daaCorrection a f) % 256
      ∧ (daa8 a f).flags =
        { z := decide ((daa8 a f).value.toNat = 0), n := false, h := false, c := f.c || decide (0x99 < a.toNat) } := by
  simp only [daa8, if_neg hn]
  refine ⟨?_, by rw [byte_beq_zero]⟩
  rw [toNat_ite_add, toNat_and_0f, toNat_ite_add_0x60_mod_16, toNat_ite_add]
  simp only [Bool.or_eq_true, decide_eq_true_eq, toNat_0x60, toNat_0x06, daaCorrection, gt_iff_lt]
  omega

theorem daaEffect_daa8 (a : Byte) (f : Flags) : DaaEffect a f (daa8 a f).value (daa8 a f).flags := by
  unfold DaaEffect
  split
  next hn => exact daa8_of_sub a hn
  next hn => exact daa8_of_add a hn

end Sys2Proof.Machine
end

section
/-! The instructions of `spec/41_alu8.md`: encodings, and each operand form by its effect and its frame. -/

namespace Sys2Proof.Machine

/-! ## The eight operations on A -/

theorem encode_aluR (op : AluOp) (r : Reg8) : encode (.aluR op r) = [opc (128 + 8 * codeAlu op + codeR r)] := by
  cases op <;> cases r <;> rfl

theorem encode_aluHL (op : AluOp) : encode (.aluHL op) = [opc (134 + 8 * codeAlu op)] := by cases op <;> rfl

theorem encode_aluN (op : AluOp) (n : Byte) : encode (.aluN op n) = [opc (198 + 8 * codeAlu op), n] := by
  cases op <;> rfl

theorem completes_aluR (op : AluOp) (r : Reg8) (s : State) :
    Completes (.aluR op r) s fun t =>
      AluEffect op (s.reg .a) (s.reg r) s.flags (t.reg .a) t.flags ∧ RegsKept [.a] s t ∧ RegisterOnly 4 s t :=
  .of_setReg_setFlags (P := AluEffect op (s.reg .a) (s.reg r) s.flags) (exec_aluR op r s) (aluEffect_alu8 op _ _ _)

/-- Settles O24: the effect is `aluEffect_alu8` in every operand form, and the form gives the frame. -/
theorem eightBitArithmetic : Obligations.EightBitArithmetic :=
  ⟨fun op r => ⟨encode_aluR op r, completes_aluR op r⟩,
    fun op => ⟨encode_aluHL op, fun s =>
      .of_memRead_setReg_setFlags (P := AluEffect op (s.reg .a) (s.memRead (s.pair .hl)).1 s.flags) (exec_aluHL op s)
        (aluEffect_alu8 op _ _ _)⟩,
    fun op n => ⟨encode_aluN op n, fun s =>
      .of_setReg_setFlags (P := AluEffect op (s.reg .a) n s.flags) (exec_aluN op n s) (aluEffect_alu8 op _ _ _)⟩⟩

/-! ## `INC` and `DEC` -/

theorem encode_incR (r : Reg8) : encode (.incR r) = [opc (4 + 8 * codeR r)] := by cases r <;> rfl

theorem encode_decR (r : Reg8) : encode (.decR r) = [opc (5 + 8 * codeR r)] := by cases r <;> rfl

/-- Settles O25: the effects of `incEffect_inc8` and `decEffect_dec8`, in the two one-operand forms. -/
theorem eightBitIncrementDecrement : Obligations.EightBitIncrementDecrement := by
  refine ⟨fun r => ⟨⟨encode_incR r, encode_decR r⟩, fun s => ⟨?_, ?_⟩⟩, ⟨rfl, rfl⟩, fun s hwf hfree => ⟨?_, ?_⟩⟩
  · exact .of_updReg (P := IncEffect (s.reg r) s.flags) (exec_incR r s) (incEffect_inc8 _ _)
  · exact .of_updReg (P := DecEffect (s.reg r) s.flags) (exec_decR r s) (decEffect_dec8 _ _)
  · exact .of_updMem (P := IncEffect (s.memRead (s.pair .hl)).1 s.flags) rfl hwf hfree (incEffect_inc8 _ _)
  · exact .of_updMem (P := DecEffect (s.memRead (s.pair .hl)).1 s.flags) rfl hwf hfree (decEffect_dec8 _ _)

/-! ## `DAA`, `CPL`, `SCF`, `CCF` -/

theorem completes_daa (s : State) :
    Completes .daa s fun t =>
      DaaEffect (s.reg .a) s.flags (t.reg .a) t.flags ∧ RegsKept [.a] s t ∧ RegisterOnly 4 s t :=
  .of_updReg (P := DaaEffect (s.reg .a) s.flags) rfl (daaEffect_daa8 _ _)

/-- What `CPL` (R381) leaves in A and in the flags. -/
def CplEffect (a : Byte) (f : Flags) (a' : Byte) (f' : Flags) : Prop :=
  a'.toNat = 255 - a.toNat ∧ f' = { f with n := true, h := true }

theorem cplEffect_not (a : Byte) (f : Flags) : CplEffect a f (~~~a) { f with n := true, h := true } :=
  ⟨BitVec.toNat_not, rfl⟩

/-- Settles O26: `DAA` and `CPL` write A and the flags, `SCF` and `CCF` the flags alone. -/
theorem accumulatorAndCarryAdjustments : Obligations.AccumulatorAndCarryAdjustments := by
  refine ⟨⟨rfl, rfl, rfl, rfl⟩, fun s => ⟨completes_daa s, ?_, .of_setFlags rfl, .of_setFlags rfl⟩⟩
  have hcpl : Completes .cpl s fun t =>
      CplEffect (s.reg .a) s.flags (t.reg .a) t.flags ∧ RegsKept [.a] s t ∧ RegisterOnly 4 s t :=
    .of_setReg_setFlags (P := CplEffect (s.reg .a) s.flags) rfl (cplEffect_not _ _)
  exact hcpl.mono fun t ⟨⟨ha, hf⟩, hframe⟩ => ⟨ha, hf, hframe⟩

/-! ## Packed decimals -/

theorem toNat_bcd {n : Nat} (h : n < 100) : (bcd n).toNat = n / 10 * 16 + n % 10 := by
  rw [bcd, BitVec.toNat_ofNat]
  omega

theorem eq_bcd_of_toNat {v : Byte} {n : Nat} (hn : n < 100) (h : v.toNat = n / 10 * 16 + n % 10) : v = bcd n :=
  BitVec.eq_of_toNat_eq (h.trans (toNat_bcd hn).symm)

theorem toNat_bcd_eq_zero_iff {n : Nat} (h : n < 100) : (bcd n).toNat = 0 ↔ n = 0 := by
  rw [toNat_bcd h]
  omega

/-- `DAA` after `ADD` (R380, R352): each of its two tests finds the decimal carry out of a digit. -/
theorem decimal_add {x y : Nat} (hx : x < 100) (hy : y < 100) {f f' f'' : Flags} {a' a'' : Byte}
    (hadd : AluEffect .add (bcd x) (bcd y) f a' f') (hdaa : DaaEffect a' f' a'' f'') :
    a'' = bcd ((x + y) % 100) ∧ f''.c = decide (100 ≤ x + y) ∧ f''.z = decide ((x + y) % 100 = 0) := by
  obtain ⟨ha', rfl⟩ := hadd
  have hsum : (x + y) % 100 < 100 := Nat.mod_lt _ (by decide)
  have hlow : 15 < (bcd x).toNat % 16 + (bcd y).toNat % 16 ∨ 9 < a'.toNat % 16 ↔ 10 ≤ x % 10 + y % 10 := by
    rw [ha', toNat_bcd hx, toNat_bcd hy]
    omega
  have hhigh : 255 < (bcd x).toNat + (bcd y).toNat ∨ 0x99 < a'.toNat ↔ 100 ≤ x + y := by
    have hnat : 0x99 < (bcd x).toNat + (bcd y).toNat ↔ 100 ≤ x + y := by
      rw [toNat_bcd hx, toNat_bcd hy]
      omega
    rw [ha', ← hnat]
    omega
  rw [toNat_bcd hx, toNat_bcd hy] at ha'
  obtain ⟨ha'', rfl⟩ := hdaa
  simp only [daaCorrection, decide_eq_true_eq, hlow, hhigh] at ha''
  have hvalue : a'' = bcd ((x + y) % 100) := by
    refine eq_bcd_of_toNat hsum ?_
    split_ifs at ha'' <;> omega
  refine ⟨hvalue, ?_, ?_⟩
  · simp only [← Bool.decide_or, hhigh]
  · simp only [hvalue, toNat_bcd_eq_zero_iff hsum]

/-- `DAA` after `SUB` (R380, R358): C and H are the decimal borrows out of the two digits. -/
theorem decimal_sub {x y : Nat} (hx : x < 100) (hy : y < 100) {f f' f'' : Flags} {a' a'' : Byte}
    (hsub : AluEffect .sub (bcd x) (bcd y) f a' f') (hdaa : DaaEffect a' f' a'' f'') :
    a'' = bcd ((100 + x - y) % 100) ∧ f''.c = decide (x < y) ∧ f''.z = decide (x = y) := by
  obtain ⟨ha', rfl⟩ := hsub
  have hdiff : (100 + x - y) % 100 < 100 := Nat.mod_lt _ (by decide)
  have hzero : (100 + x - y) % 100 = 0 ↔ x = y := by omega
  rw [toNat_bcd hx, toNat_bcd hy] at ha'
  have hlow : (bcd x).toNat % 16 < (bcd y).toNat % 16 ↔ x % 10 < y % 10 := by
    rw [toNat_bcd hx, toNat_bcd hy]
    omega
  have hhigh : (bcd x).toNat < (bcd y).toNat ↔ x < y := by
    rw [toNat_bcd hx, toNat_bcd hy]
    omega
  obtain ⟨ha'', rfl⟩ := hdaa
  simp only [bitNat, decide_eq_true_eq, hlow, hhigh] at ha''
  have hvalue : a'' = bcd ((100 + x - y) % 100) := by
    refine eq_bcd_of_toNat hdiff ?_
    split_ifs at ha'' <;> omega
  refine ⟨hvalue, ?_, ?_⟩
  · simp only [hhigh]
  · simp only [hvalue, toNat_bcd_eq_zero_iff hdiff, hzero]

/-- Settles O27: `decimal_add` and `decimal_sub` on what O24 and O26 say of the two instructions. -/
theorem decimalArithmetic : Obligations.DecimalArithmetic := by
  intro s x y hx hy ha hb
  refine ⟨(completes_aluR .add .b s).mono fun t ⟨hadd, _⟩ => (completes_daa t).mono fun u ⟨hdaa, _⟩ => ?_,
    (completes_aluR .sub .b s).mono fun t ⟨hsub, _⟩ => (completes_daa t).mono fun u ⟨hdaa, _⟩ => ?_⟩
  · rw [ha, hb] at hadd
    exact decimal_add hx hy hadd hdaa
  · rw [ha, hb] at hsub
    exact decimal_sub hx hy hsub hdaa

end Sys2Proof.Machine
end

section
/-! The 16-bit operations over the natural numbers (`spec/42_alu16.md` R400 to R404). -/

namespace Sys2Proof.Machine

/-! ## Bits of an address -/

theorem toNat_addr_and_0fff (v : Addr) : (v &&& 0x0FFF).toNat = v.toNat % 4096 :=
  (BitVec.toNat_and v 0x0FFF).trans (Nat.and_two_pow_sub_one_eq_mod v.toNat 12)

theorem toNat_addr_and_00ff (v : Addr) : (v &&& 0x00FF).toNat = v.toNat % 256 :=
  (BitVec.toNat_and v 0x00FF).trans (Nat.and_two_pow_sub_one_eq_mod v.toNat 8)

theorem toNat_addr_and_000f (v : Addr) : (v &&& 0x000F).toNat = v.toNat % 16 :=
  (BitVec.toNat_and v 0x000F).trans (Nat.and_two_pow_sub_one_eq_mod v.toNat 4)

/-- A negative displacement has 0xFF in the high byte (R8). -/
theorem toNat_sext16 (e : Byte) : (sext16 e).toNat = e.toNat + if 128 ≤ e.toNat then 65280 else 0 := by
  have hmsb : e.msb = decide (128 ≤ e.toNat) := e.msb_eq_decide
  have hwidth : (e.setWidth 16).toNat = e.toNat := BitVec.toNat_setWidth_of_le (by decide)
  rw [sext16, BitVec.toNat_signExtend, hwidth, hmsb]
  simp only [decide_eq_true_eq]

/-! ## `ADD HL,rr` -/

theorem toNat_value_addHL16 (hl rr : Addr) (f : Flags) :
    (addHL16 hl rr f).value.toNat = (hl.toNat + rr.toNat) % 65536 := BitVec.toNat_ofNat _ _

theorem flags_addHL16 (hl rr : Addr) (f : Flags) :
    (addHL16 hl rr f).flags =
      { z := f.z, n := false
        h := decide (4095 < hl.toNat % 4096 + rr.toNat % 4096)
        c := decide (65535 < hl.toNat + rr.toNat) } := by
  simp only [addHL16, toNat_addr_and_0fff, gt_iff_lt]

/-! ## SP with a displacement -/

theorem toNat_value_addSP16 (sp : Addr) (e : Byte) : (addSP16 sp e).value.toNat = spPlus sp e := by
  rw [addSP16, spPlus, BitVec.toNat_add, toNat_sext16, Nat.add_assoc]

/-- The flags take `e` unsigned, whatever its sign (R403). -/
theorem flags_addSP16 (sp : Addr) (e : Byte) : (addSP16 sp e).flags = spFlags sp e := by
  simp only [addSP16, spFlags, toNat_addr_and_000f, toNat_addr_and_00ff, toNat_and_0f, gt_iff_lt]

end Sys2Proof.Machine
end

section
/-! The instructions of `spec/42_alu16.md`: encodings, and each form by the pair that it writes. -/

namespace Sys2Proof.Machine

variable {s : State} {i : Instr} {n k : Nat} {p : Rp} {v : Addr} {f : Flags}

/-! ## Encodings -/

theorem encode_incRp (p : Rp) : encode (.incRp p) = [opc (3 + 16 * codeRp p)] := by cases p <;> rfl

theorem encode_decRp (p : Rp) : encode (.decRp p) = [opc (11 + 16 * codeRp p)] := by cases p <;> rfl

theorem encode_addHLRp (p : Rp) : encode (.addHLRp p) = [opc (9 + 16 * codeRp p)] := by cases p <;> rfl

/-! ## A pair written from the CPU alone -/

/-- Outside the 8-bit registers and the flags a write to a pair can change SP alone. -/
theorem pairFrame_setPair (s : State) (p : Rp) (v : Addr) (n : Nat) :
    (p ≠ .sp → SpKept s ((s.setPair p v).addCycles n)) ∧ PcKept s ((s.setPair p v).addCycles n)
      ∧ NoDraw s ((s.setPair p v).addCycles n) ∧ Quiet n s ((s.setPair p v).addCycles n) :=
  ⟨s.cpu_sp_setPair p v, s.cpu_pc_setPair p v, s.draws_setPair p v, ((Quiet.refl s).setPair p v).addCycles n⟩

theorem State.pair_setPair_same (s : State) (p : Rp) (v : Addr) : (s.setPair p v).pair p = v :=
  (s.pair_setPair p p v).trans (if_pos rfl)

theorem Completes.of_setPair (hexec : exec i s = done n (s.setPair p v)) (hv : v.toNat = k) :
    Completes i s fun t => (t.pair p).toNat = k ∧ CpuKept (regsOfRp p) s t ∧ (p ≠ .sp → SpKept s t) ∧ PcKept s t
      ∧ NoDraw s t ∧ Quiet n s t := by
  refine .of_done hexec ⟨?_, ?_, pairFrame_setPair s p v n⟩
  · rw [State.pair_addCycles, State.pair_setPair_same, hv]
  · exact ((CpuKept.of_cpu_eq rfl).setPair v (List.Subset.refl _)).addCycles n

theorem Completes.of_setPair_setFlags (hexec : exec i s = done n ((s.setPair p v).setFlags f)) (hv : v.toNat = k) :
    Completes i s fun t => (t.pair p).toNat = k ∧ t.flags = f ∧ RegsKept (regsOfRp p) s t ∧ (p ≠ .sp → SpKept s t)
      ∧ PcKept s t ∧ NoDraw s t ∧ Quiet n s t := by
  refine .of_done hexec ⟨?_, rfl, ?_, pairFrame_setPair s p v n⟩
  · rw [State.pair_addCycles, State.pair_setFlags, State.pair_setPair_same, hv]
  · exact (((RegsKept.refl _ s).setPair v (List.Subset.refl _)).setFlags f).addCycles n

/-- HL and the flags written: SP is kept, so only 8-bit registers differ. -/
theorem Completes.of_setHL_setFlags (hexec : exec i s = done n ((s.setPair .hl v).setFlags f)) (hv : v.toNat = k) :
    Completes i s fun t => (t.pair .hl).toNat = k ∧ t.flags = f ∧ RegsKept [.h, .l] s t ∧ RegisterOnly n s t :=
  (Completes.of_setPair_setFlags hexec hv).mono fun _ ⟨hhl, hflags, hregs, hsp, hrest⟩ =>
    ⟨hhl, hflags, hregs, hsp (by decide), hrest⟩

/-! ## The five instructions -/

/-- `INC rr` and `DEC rr` are `addPair` with 1 and with -1, which is 65535. -/
theorem Completes.of_addPair {delta : Addr} (hexec : exec i s = addPair p delta s) (hdelta : delta.toNat = k) :
    Completes i s fun t => (t.pair p).toNat = ((s.pair p).toNat + k) % 65536 ∧ CpuKept (regsOfRp p) s t
      ∧ (p ≠ .sp → SpKept s t) ∧ PcKept s t ∧ NoDraw s t ∧ Quiet 8 s t :=
  .of_setPair hexec (by rw [BitVec.toNat_add, hdelta])

theorem completes_addHLRp (p : Rp) (s : State) :
    Completes (.addHLRp p) s fun t =>
      (t.pair .hl).toNat = ((s.pair .hl).toNat + (s.pair p).toNat) % 65536
        ∧ t.flags = (addHL16 (s.pair .hl) (s.pair p) s.flags).flags ∧ RegsKept [.h, .l] s t ∧ RegisterOnly 8 s t :=
  .of_setHL_setFlags (exec_addHLRp p s) (toNat_value_addHL16 _ _ _)

theorem completes_add_sp_e8 (e : Byte) (s : State) :
    Completes (.add_sp_e8 e) s fun t =>
      t.cpu.sp.toNat = spPlus s.cpu.sp e ∧ t.flags = (addSP16 s.cpu.sp e).flags ∧ RegsKept [] s t ∧ PcKept s t
        ∧ NoDraw s t ∧ Quiet 16 s t :=
  (Completes.of_setPair_setFlags (p := .sp) rfl (toNat_value_addSP16 s.cpu.sp e)).mono
    fun _ ⟨hsp, hflags, hregs, _, hrest⟩ => ⟨hsp, hflags, hregs, hrest⟩

theorem completes_ld_hl_sp_e8 (e : Byte) (s : State) :
    Completes (.ld_hl_sp_e8 e) s fun t =>
      (t.pair .hl).toNat = spPlus s.cpu.sp e ∧ t.flags = (addSP16 s.cpu.sp e).flags ∧ RegsKept [.h, .l] s t
        ∧ RegisterOnly 12 s t :=
  .of_setHL_setFlags rfl (toNat_value_addSP16 _ _)

/-- Settles O28: the sum of each instruction by the pair that it writes, the flags by `flags_addHL16` and
`flags_addSP16`. -/
theorem sixteenBitArithmetic : Obligations.SixteenBitArithmetic := by
  refine ⟨fun p => ⟨⟨encode_incRp p, encode_decRp p, encode_addHLRp p⟩, fun s =>
      ⟨.of_addPair (exec_incRp p s) rfl, .of_addPair (exec_decRp p s) rfl, ?_⟩⟩,
    fun e => ⟨⟨rfl, rfl⟩, fun s => ?_⟩⟩
  · rw [← flags_addHL16]
    exact completes_addHLRp p s
  · rw [← flags_addSP16]
    exact ⟨completes_add_sp_e8 e s, completes_ld_hl_sp_e8 e s⟩

end Sys2Proof.Machine
end

section
/-! The rotates, shifts and bit changes of a byte, bit by bit (`spec/43_rotate_shift_bit.md` R430 to R456). -/

namespace Sys2Proof.Machine

/-! ## One bit of a byte -/

theorem getLsbD_one_shiftLeft {j k : Nat} (hk : k < 8) : ((1 : Byte) <<< j).getLsbD k = decide (k = j) := by
  have hjk : j < 8 ∧ j = k ↔ k = j := by omega
  calc ((1 : Byte) <<< j).getLsbD k
      = (decide (j < 8) && decide (j = k)) := BitVec.getLsbD_twoPow j k
    _ = decide (k = j) := by rw [← Bool.decide_and, decide_eq_decide.mpr hjk]

theorem getLsbD_bit0_shiftLeft (b : Bool) {j k : Nat} (hk : k < 8) :
    (bit0 b <<< j).getLsbD k = (decide (k = j) && b) := by
  cases b with
  | false => simp [bit0]
  | true => exact (getLsbD_one_shiftLeft hk).trans (Bool.and_true _).symm

theorem getLsbD_bit0 (b : Bool) {k : Nat} (hk : k < 8) : (bit0 b).getLsbD k = (decide (k = 0) && b) := by
  rw [← getLsbD_bit0_shiftLeft b hk, BitVec.shiftLeft_zero]

/-! ## Shifts by one with a bit put in -/

theorem getLsbD_shiftLeft_one_or_bit0 (v : Byte) (b : Bool) {k : Nat} (hk : k < 8) :
    (v <<< 1 ||| bit0 b).getLsbD k = if k = 0 then b else v.getLsbD (k - 1) := by
  rw [BitVec.getLsbD_or, getLsbD_bit0 b hk, BitVec.getLsbD_shiftLeft]
  by_cases h : k = 0
  · simp [h]
  · simp [h, hk]

theorem getLsbD_ushiftRight_one_or_bit7 (v : Byte) (b : Bool) {k : Nat} (hk : k < 8) :
    (v >>> 1 ||| bit0 b <<< 7).getLsbD k = if k = 7 then b else v.getLsbD (k + 1) := by
  rw [BitVec.getLsbD_or, getLsbD_bit0_shiftLeft b hk, BitVec.getLsbD_ushiftRight, Nat.add_comm]
  by_cases h : k = 7
  · simp [h]
  · simp [h]

/-- `SRA` (R445) keeps bit 7. -/
theorem and_0x80_eq_bit0 (v : Byte) : v &&& 0x80 = bit0 (v.getLsbD 7) <<< 7 := by
  revert v
  decide

theorem getLsbD_swap (v : Byte) {k : Nat} (hk : k < 8) :
    (v <<< 4 ||| v >>> 4).getLsbD k = v.getLsbD ((k + 4) % 8) := by
  rw [BitVec.getLsbD_or, BitVec.getLsbD_shiftLeft, BitVec.getLsbD_ushiftRight, Nat.add_comm 4 k]
  by_cases h : k < 4
  · simp [h, Nat.mod_eq_of_lt (show k + 4 < 8 by omega)]
  · have hmod : (k + 4) % 8 = k - 4 := by omega
    have hhigh : v.getLsbD (k + 4) = false := BitVec.getLsbD_of_ge v _ (by omega)
    simp [h, hk, hmod, hhigh]

/-! ## The eight operations -/

theorem rotEffect_rotate (op : RotOp) (v : Byte) (c : Bool) :
    RotEffect op v c (rotate op v c).1 (rotate op v c).2 := by
  have hleft := fun b k (hk : k < 8) => getLsbD_shiftLeft_one_or_bit0 v b hk
  have hright := fun b k (hk : k < 8) => getLsbD_ushiftRight_one_or_bit7 v b hk
  cases op with
  | rlc => exact ⟨hleft (v.getLsbD 7), rfl⟩
  | rrc => exact ⟨hright (v.getLsbD 0), rfl⟩
  | rl => exact ⟨hleft c, rfl⟩
  | rr => exact ⟨hright c, rfl⟩
  | sla =>
    have hsla := hleft false
    rw [show v <<< 1 ||| bit0 false = v <<< 1 from BitVec.or_zero] at hsla
    exact ⟨hsla, rfl⟩
  | sra =>
    have hsra := hright (v.getLsbD 7)
    rw [← and_0x80_eq_bit0] at hsra
    exact ⟨hsra, rfl⟩
  | swap => exact ⟨fun k hk => getLsbD_swap v hk, rfl⟩
  | srl =>
    have hsrl := hright false
    rw [show v >>> 1 ||| bit0 false <<< 7 = v >>> 1 from BitVec.or_zero] at hsrl
    exact ⟨hsrl, rfl⟩

/-- A rotate that leaves `v'` and `f'`: bit by bit as `RotEffect` says, with flags that follow from the result and the
bit shifted out. -/
def RotResult (flagsOf : Byte → Bool → Flags) (op : RotOp) (v : Byte) (f : Flags) (v' : Byte) (f' : Flags) : Prop :=
  ∃ out, RotEffect op v f.c v' out ∧ f' = flagsOf v' out

/-- The flags after a rotate of A on the base page: Z is always clear. -/
def accRotFlags (_ : Byte) (out : Bool) : Flags := { z := false, n := false, h := false, c := out }

theorem rotResult_rot8 (op : RotOp) (v : Byte) (f : Flags) :
    RotResult rotFlags op v f (rot8 op v f).value (rot8 op v f).flags :=
  ⟨_, rotEffect_rotate op v f.c, by simp only [rot8, rotFlags, byte_beq_zero]⟩

theorem rotResult_rotA8 (op : RotOp) (v : Byte) (f : Flags) :
    RotResult accRotFlags op v f (rotA8 op v f).value (rotA8 op v f).flags :=
  ⟨_, rotEffect_rotate op v f.c, rfl⟩

/-! ## `RES` and `SET` -/

theorem getLsbD_res8 (b : Idx8) (v : Byte) {k : Nat} (hk : k < 8) :
    (res8 b v).getLsbD k = if k = idxNat b then false else v.getLsbD k := by
  rw [res8, BitVec.getLsbD_and, BitVec.getLsbD_not, getLsbD_one_shiftLeft hk]
  by_cases h : k = idxNat b <;> simp [h, hk]

theorem getLsbD_set8 (b : Idx8) (v : Byte) {k : Nat} (hk : k < 8) :
    (set8 b v).getLsbD k = if k = idxNat b then true else v.getLsbD k := by
  rw [set8, BitVec.getLsbD_or, getLsbD_one_shiftLeft hk]
  by_cases h : k = idxNat b <;> simp [h]

end Sys2Proof.Machine
end

section
/-! The instructions of `spec/43_rotate_shift_bit.md`: encodings, and each operand form by its effect and its frame. -/

namespace Sys2Proof.Machine

variable {s : State} {i : Instr} {n : Nat}

/-! ## Encodings -/

theorem encode_rotR (op : RotOp) (r : Reg8) : encode (.rotR op r) = [0xCB, opc (8 * codeRot op + codeR r)] := by
  cases op <;> cases r <;> rfl

theorem encode_rotHL (op : RotOp) : encode (.rotHL op) = [0xCB, opc (8 * codeRot op + 6)] := by cases op <;> rfl

theorem encode_bitR (b : Idx8) (r : Reg8) : encode (.bitR b r) = [0xCB, opc (64 + 8 * idxNat b + codeR r)] := by
  cases b <;> cases r <;> rfl

theorem encode_bitHL (b : Idx8) : encode (.bitHL b) = [0xCB, opc (70 + 8 * idxNat b)] := by cases b <;> rfl

theorem encode_resR (b : Idx8) (r : Reg8) : encode (.resR b r) = [0xCB, opc (128 + 8 * idxNat b + codeR r)] := by
  cases b <;> cases r <;> rfl

theorem encode_resHL (b : Idx8) : encode (.resHL b) = [0xCB, opc (134 + 8 * idxNat b)] := by cases b <;> rfl

theorem encode_setR (b : Idx8) (r : Reg8) : encode (.setR b r) = [0xCB, opc (192 + 8 * idxNat b + codeR r)] := by
  cases b <;> cases r <;> rfl

theorem encode_setHL (b : Idx8) : encode (.setHL b) = [0xCB, opc (198 + 8 * idxNat b)] := by cases b <;> rfl

/-! ## Rotates and shifts -/

/-- A rotate of a register, on either page: the pages differ in the flags alone. -/
theorem Completes.of_updReg_rotResult {flagsOf : Byte → Bool → Flags} {op : RotOp} {f : Byte → Flags → AluResult}
    {r : Reg8} (hexec : exec i s = updReg f r n s)
    (hf : RotResult flagsOf op (s.reg r) s.flags (f (s.reg r) s.flags).value (f (s.reg r) s.flags).flags) :
    Completes i s fun t => ∃ out,
      RotEffect op (s.reg r) s.flags.c (t.reg r) out ∧ t.flags = flagsOf (t.reg r) out ∧ RegsKept [r] s t
        ∧ RegisterOnly n s t :=
  (Completes.of_updReg (P := RotResult flagsOf op (s.reg r) s.flags) hexec hf).mono
    fun _ ⟨⟨out, heffect, hflags⟩, hframe⟩ => ⟨out, heffect, hflags, hframe⟩

/-- Settles O29: each of the four is `rotA8` on A. -/
theorem accumulatorRotates : Obligations.AccumulatorRotates := by
  refine ⟨⟨rfl, rfl, rfl, rfl⟩, fun i op hmem s => ?_⟩
  have hexec : exec i s = updReg (rotA8 op) .a 4 s := by
    simp only [List.mem_cons, Prod.mk.injEq, List.not_mem_nil, or_false] at hmem
    obtain ⟨rfl, rfl⟩ | ⟨rfl, rfl⟩ | ⟨rfl, rfl⟩ | ⟨rfl, rfl⟩ := hmem <;> rfl
  exact .of_updReg_rotResult hexec (rotResult_rotA8 op _ _)

/-- Settles O30: both operand forms are `rot8`, of the register and of the byte at HL. -/
theorem rotatesAndShifts : Obligations.RotatesAndShifts := by
  refine ⟨fun op r => ⟨encode_rotR op r, fun s => ?_⟩, fun op => ⟨encode_rotHL op, fun s hwf hfree => ?_⟩⟩
  · exact .of_updReg_rotResult (exec_rotR op r s) (rotResult_rot8 op _ _)
  · have hupd := Completes.of_updMem (P := RotResult rotFlags op (s.memRead (s.pair .hl)).1 s.flags)
      (exec_rotHL op s) hwf hfree (rotResult_rot8 op _ _)
    exact hupd.mono fun _ ⟨v, ⟨out, heffect, hflags⟩, hframe⟩ => ⟨v, out, heffect, hflags, hframe⟩

/-! ## `BIT` -/

/-- Only the flags written, after one data read. -/
theorem Completes.of_memRead_setFlags {a : Addr} {f : Flags}
    (hexec : exec i s = done n ((s.memRead a).2.setFlags f)) :
    Completes i s fun t => t.flags = f ∧ RegsKept [] s t ∧ ReadsOnly n a s t := by
  have hcpu : (s.memRead a).2.cpu = s.cpu := s.cpu_memRead a
  have hsp := congrArg Cpu.sp hcpu
  have hpc := congrArg Cpu.pc hcpu
  exact .of_done hexec ⟨rfl, (((RegsKept.refl [] s).memRead a).setFlags f).addCycles n, hsp, hpc, rfl,
    (((Quiet.refl s).memRead a).setFlags f).addCycles n⟩

/-- Settles O31: both operand forms write `bitFlags` of the byte and nothing else. -/
theorem bitTests : Obligations.BitTests :=
  ⟨fun b r => ⟨encode_bitR b r, fun s => .of_setFlags (exec_bitR b r s)⟩,
    fun b => ⟨encode_bitHL b, fun s => .of_memRead_setFlags (exec_bitHL b s)⟩⟩

/-! ## `RES` and `SET` -/

theorem Completes.of_mapReg {P : Byte → Prop} {f : Byte → Byte} {r : Reg8} (hexec : exec i s = mapReg f r s)
    (hP : P (f (s.reg r))) :
    Completes i s fun t => P (t.reg r) ∧ RegsKept [r] s t ∧ FlagsKept s t ∧ RegisterOnly 8 s t :=
  (Completes.of_setReg hexec).mono fun _ ⟨hreg, hframe⟩ => ⟨hreg ▸ hP, hframe⟩

/-- Read, change and write back where OAM DMA leaves HL free: no flag is written. -/
theorem Completes.of_mapMem {P : Byte → Prop} {f : Byte → Byte} {o : Byte} (hexec : exec i s = mapMem o f s)
    (hwf : s.mem.wf = true) (hfree : s.dmaHolds (s.pair .hl) = false) (hP : P (f (s.memRead (s.pair .hl)).1)) :
    Completes i s fun t => ∃ v,
      P v ∧ t.cpu = s.cpu ∧ StoresByte 16 (s.pair .hl) v (s.memRead (s.pair .hl)).2 t := by
  have hwf' : (s.memRead s.hl).2.mem.wf = true := by rwa [State.mem_memRead]
  have hcpu : ((s.memRead s.hl).2.busWrite s.hl (f (s.memRead s.hl).1)).cpu = s.cpu :=
    (State.cpu_busWrite _ _ _).trans (s.cpu_memRead _)
  exact ⟨_, hexec.trans (mapMem_ok s o f hfree), _, hP, hcpu, (StoresByte.of_busWrite _ _ _ hwf').addCycles 16⟩

/-- `v'` is `v` with bit `j` replaced by `x`. -/
def BitReplaced (j : Nat) (x : Bool) (v v' : Byte) : Prop :=
  ∀ k, k < 8 → v'.getLsbD k = if k = j then x else v.getLsbD k

theorem bitReplaced_res8 (b : Idx8) (v : Byte) : BitReplaced (idxNat b) false v (res8 b v) :=
  fun _ => getLsbD_res8 b v

theorem bitReplaced_set8 (b : Idx8) (v : Byte) : BitReplaced (idxNat b) true v (set8 b v) :=
  fun _ => getLsbD_set8 b v

/-- Settles O32: each operand form replaces one bit, by `bitReplaced_res8` and `bitReplaced_set8`. -/
theorem bitResetAndSet : Obligations.BitResetAndSet := by
  refine ⟨fun b r => ⟨⟨encode_resR b r, encode_setR b r⟩, fun s => ⟨?_, ?_⟩⟩,
    fun b => ⟨⟨encode_resHL b, encode_setHL b⟩, fun s hwf hfree => ⟨?_, ?_⟩⟩⟩
  · exact .of_mapReg (P := BitReplaced (idxNat b) false (s.reg r)) (exec_resR b r s) (bitReplaced_res8 b _)
  · exact .of_mapReg (P := BitReplaced (idxNat b) true (s.reg r)) (exec_setR b r s) (bitReplaced_set8 b _)
  · exact .of_mapMem (P := BitReplaced (idxNat b) false (s.memRead (s.pair .hl)).1) (exec_resHL b s) hwf hfree
      (bitReplaced_res8 b _)
  · exact .of_mapMem (P := BitReplaced (idxNat b) true (s.memRead (s.pair .hl)).1) (exec_setHL b s) hwf hfree
      (bitReplaced_set8 b _)

end Sys2Proof.Machine
end

section
/-! The jumps, calls and returns (`spec/44_control.md` R470 to R480): their encodings, each form by the frame it keeps,
and what a stack in WRAM gives back. -/

namespace Sys2Proof.Machine

variable {s t : State} {i : Instr} {n : Nat} {a : Addr} {cnd : Cond}

/-! ## Encodings -/

theorem encode_jpCc (cnd : Cond) (n : Addr) :
    encode (.jpCc cnd n) = [opc (194 + 8 * codeCc cnd), loByte n, hiByte n] := by cases cnd <;> rfl

theorem encode_jrCc (cnd : Cond) (e : Byte) : encode (.jrCc cnd e) = [opc (32 + 8 * codeCc cnd), e] := by
  cases cnd <;> rfl

theorem encode_callCc (cnd : Cond) (n : Addr) :
    encode (.callCc cnd n) = [opc (196 + 8 * codeCc cnd), loByte n, hiByte n] := by cases cnd <;> rfl

theorem encode_retCc (cnd : Cond) : encode (.retCc cnd) = [opc (192 + 8 * codeCc cnd)] := by cases cnd <;> rfl

theorem encode_rst (y : Idx8) : encode (.rst y) = [opc (199 + 8 * idxNat y)] := by cases y <;> rfl

/-! ## The frames along a write of PC -/

theorem Quiet.setPc (h : Quiet n s t) (v : Addr) : Quiet n s (t.setPc v) := h

theorem CpuKept.setPc {l : List Reg8} (h : CpuKept l s t) (v : Addr) : CpuKept l s (t.setPc v) := by
  obtain ⟨hregs, hrest⟩ := h
  exact ⟨fun r hr => (t.reg_setPc v r).trans (hregs r hr), hrest⟩

theorem StoresTwo.setPc {a1 a2 : Addr} {v1 v2 : Byte} (h : StoresTwo n a1 v1 a2 v2 s t) (x : Addr) :
    StoresTwo n a1 v1 a2 v2 s (t.setPc x) := h

/-- A transfer whose condition is not met does nothing but cost. -/
theorem Completes.of_done_self (hexec : exec i s = done n s) :
    Completes i s fun t => RegsKept [] s t ∧ FlagsKept s t ∧ RegisterOnly n s t :=
  .of_done hexec ⟨(RegsKept.refl [] s).addCycles n, rfl, rfl, rfl, rfl, (Quiet.refl s).addCycles n⟩

/-! ## Jumps -/

theorem Completes.of_jumpTo (hexec : exec i s = jumpTo a n s) :
    Completes i s fun t => t.cpu.pc = a ∧ CpuKept [] s t ∧ SpKept s t ∧ NoDraw s t ∧ Quiet n s t :=
  .of_done hexec ⟨rfl, ((CpuKept.of_cpu_eq rfl).setPc a).addCycles n, rfl, rfl,
    ((Quiet.refl s).setPc a).addCycles n⟩

/-- A conditional jump is a jump: not taken, to where PC already points. -/
theorem jumpIf_eq_jumpTo (cnd : Cond) (a : Addr) (taken notTaken : Nat) (s : State) :
    jumpIf cnd a taken notTaken s =
      jumpTo (if s.flags.cond cnd then a else s.cpu.pc) (if s.flags.cond cnd then taken else notTaken) s := by
  unfold jumpIf
  split <;> rfl

theorem toNat_relTarget (e : Byte) (s : State) : (relTarget e s).toNat = spPlus s.cpu.pc e := by
  rw [relTarget, spPlus, BitVec.toNat_add, toNat_sext16, Nat.add_assoc]

/-- Settles O34: every jump is `jumpTo`, the conditional ones by `jumpIf_eq_jumpTo`. -/
theorem jumps : Obligations.Jumps := by
  refine ⟨fun n => ⟨rfl, fun s => .of_jumpTo rfl⟩, ⟨rfl, fun s => .of_jumpTo rfl⟩, fun e => ⟨rfl, fun s => ?_⟩,
    fun cnd n => ⟨encode_jpCc cnd n, fun s => ?_⟩, fun cnd e => ⟨encode_jrCc cnd e, fun s => ?_⟩,
    fun f => ⟨rfl, rfl, rfl, rfl⟩⟩
  · rw [← toNat_relTarget]
    exact (Completes.of_jumpTo rfl).mono fun _ ⟨hpc, hrest⟩ => ⟨congrArg BitVec.toNat hpc, hrest⟩
  · exact .of_jumpTo ((exec_jpCc cnd n s).trans (jumpIf_eq_jumpTo ..))
  · rw [← toNat_relTarget, ← apply_ite BitVec.toNat]
    exact (Completes.of_jumpTo ((exec_jrCc cnd e s).trans (jumpIf_eq_jumpTo ..))).mono
      fun _ ⟨hpc, hrest⟩ => ⟨congrArg BitVec.toNat hpc, hrest⟩

/-! ## Calls -/

theorem callTo_ok (op : Byte) (a : Addr) (n : Nat) (h : StackFree s) :
    callTo op a n s =
      done n
        ((((s.busWrite (s.cpu.sp - 1) (hiByte s.cpu.pc)).busWrite (s.cpu.sp - 2) (loByte s.cpu.pc)).setSp
          (s.cpu.sp - 2)).setPc a) := by
  obtain ⟨h1, h2⟩ := h
  rw [callTo, s.push16_ok op s.cpu.pc h1 h2]
  rfl

/-- A taken call: the two bus writes of the push, with SP and PC moved. -/
theorem Completes.of_callTo {op : Byte} (hexec : exec i s = callTo op a n s) (hwf : s.mem.wf = true)
    (hstack : StackFree s) :
    Completes i s fun t => t.cpu.pc = a ∧ Pushes n s.cpu.pc s t ∧ CpuKept [] s t := by
  have hcpu := (State.cpu_busWrite _ (s.cpu.sp - 2) (loByte s.cpu.pc)).trans
    (s.cpu_busWrite (s.cpu.sp - 1) (hiByte s.cpu.pc))
  refine .of_done (hexec.trans (callTo_ok op a n hstack)) ⟨rfl, ⟨?_, rfl⟩, ?_⟩
  · exact (((StoresTwo.of_busWrite s _ _ _ _ hwf).setSp _).setPc a).addCycles n
  · exact (((CpuKept.of_cpu_eq hcpu).setSp _).setPc a).addCycles n

theorem callIf_taken (op : Byte) (a : Addr) (h : s.flags.cond cnd = true) : callIf op cnd a s = callTo op a 24 s :=
  if_pos h

theorem callIf_notTaken (op : Byte) (a : Addr) (h : s.flags.cond cnd = false) : callIf op cnd a s = done 12 s :=
  if_neg (ne_true_of_eq_false h)

theorem toNat_rstTarget (y : Idx8) : (BitVec.ofNat 16 (8 * idxNat y)).toNat = 8 * idxNat y := by cases y <;> rfl

/-- Settles O35: every taken call is `callTo`, which `Completes.of_callTo` describes. -/
theorem calls : Obligations.Calls := by
  refine ⟨fun n => ⟨rfl, fun s => .of_callTo rfl⟩, fun y => ⟨encode_rst y, fun s hwf hstack => ?_⟩,
    fun cnd n => ⟨encode_callCc cnd n, fun s =>
      ⟨fun htaken => .of_callTo ((exec_callCc cnd n s).trans (callIf_taken _ n htaken)),
        fun hnot => .of_done_self ((exec_callCc cnd n s).trans (callIf_notTaken _ n hnot))⟩⟩⟩
  exact (Completes.of_callTo (exec_rst y s) hwf hstack).mono
    fun _ ⟨hpc, hrest⟩ => ⟨(congrArg BitVec.toNat hpc).trans (toNat_rstTarget y), hrest⟩

/-! ## Returns -/

/-- A taken return: the pop of `pop16_spec`, into PC. -/
theorem Completes.of_retFrom (hexec : exec i s = retFrom n s) :
    Completes i s fun t =>
      t.cpu.pc = word16 ((s.memRead s.cpu.sp).2.memRead (s.cpu.sp + 1)).1 (s.memRead s.cpu.sp).1
        ∧ t.cpu.sp = s.cpu.sp + 2 ∧ CpuKept [] s t
        ∧ t.draws = ((s.memRead s.cpu.sp).2.memRead (s.cpu.sp + 1)).2.draws ∧ Quiet n s t := by
  rw [retFrom, s.pop16_spec] at hexec
  exact .of_done hexec ⟨rfl, rfl, (((CpuKept.of_cpu_eq rfl).setSp _).setPc _).addCycles n, rfl,
    ((((Quiet.refl s).withDraws _).setSp _).setPc _).addCycles n⟩

theorem retIf_taken (h : s.flags.cond cnd = true) : retIf cnd s = retFrom 20 s := if_pos h

theorem retIf_notTaken (h : s.flags.cond cnd = false) : retIf cnd s = done 8 s := if_neg (ne_true_of_eq_false h)

/-- Settles O36: `RET` and a taken `RET cc` by `Completes.of_retFrom`, `RETI` by `returnFromInterrupt_spec`. -/
theorem returns : Obligations.Returns := by
  refine ⟨⟨rfl, rfl⟩, fun s => .of_retFrom rfl, fun s => ?_, fun cnd => ⟨encode_retCc cnd, fun s =>
    ⟨fun htaken => .of_retFrom ((exec_retCc cnd s).trans (retIf_taken htaken)),
      fun hnot => .of_done_self ((exec_retCc cnd s).trans (retIf_notTaken hnot))⟩⟩⟩
  have hexec : exec .reti s = done 16 s.returnFromInterrupt := rfl
  rw [s.returnFromInterrupt_spec] at hexec
  exact .of_done hexec ⟨rfl, rfl, rfl, rfl, rfl, rfl, fun r _ => by cases r <;> rfl, rfl, rfl,
    ⟨rfl, rfl, rfl, rfl, rfl, rfl, rfl⟩, fun _ => rfl, rfl, rfl⟩

/-! ## A stack in WRAM (`spec/20_memory.md` R112) -/

theorem ramPlace_wram (h1 : 0xC000 ≤ a.toNat) (h2 : a.toNat < 0xE000) : ramPlace a = some a.toNat := if_pos ⟨h1, h2⟩

theorem State.dmaHolds_of_noDma (h : s.dma.remaining = 0) (a : Addr) : s.dmaHolds a = false := by
  rw [State.dmaHolds, h]
  rfl

theorem State.memRead_of_noDma_ramPlace {p : Nat} (h : s.dma.remaining = 0) (hp : ramPlace a = some p) :
    s.memRead a = (s.byteAt p, s) := by
  rw [State.memRead_of_free (State.dmaHolds_of_noDma h a), s.busRead_of_ramPlace hp]

/-- Two stores to different bytes of RAM leave both there, and the DMA unit as it was. -/
theorem StoresTwo.byteAt_of_ramPlace {a1 a2 : Addr} {v1 v2 : Byte} {p1 p2 : Nat} (h : StoresTwo n a1 v1 a2 v2 s t)
    (h1 : ramPlace a1 = some p1) (h2 : ramPlace a2 = some p2) (hne : p1 ≠ p2) :
    t.byteAt p1 = v1 ∧ t.byteAt p2 = v2 ∧ t.dma = s.dma := by
  obtain ⟨hsecond, hfirst, -, ⟨-, -, -, -, -, hdma, -⟩, -⟩ := h
  obtain ⟨haddr1, hbyte1⟩ := s.storeAddr_of_ramPlace v1 h1
  obtain ⟨haddr2, hbyte2⟩ := (s.busWrite a1 v1).storeAddr_of_ramPlace v2 h2
  have ha1 := ne_ff46_of_ramPlace h1
  have ha2 := ne_ff46_of_ramPlace h2
  refine ⟨?_, (hsecond p2 haddr2).trans hbyte2, ?_⟩
  · refine (hfirst p1 haddr1 (fun hp => hne ?_) fun hoam => ha2 hoam.1).trans hbyte1
    exact (Option.some.inj (haddr2.symm.trans hp)).symm
  · exact hdma.trans ((State.dma_busWrite _ a2 v2 ha2).trans (s.dma_busWrite a1 v1 ha1))

/-- The two bytes read from SP up are the value pushed. -/
theorem Pushes.popped {v : Addr} (h : Pushes n v s t) (hdma : s.dma.remaining = 0) (hlo : 0xC002 ≤ s.cpu.sp.toNat)
    (hhi : s.cpu.sp.toNat ≤ 0xE000) :
    word16 ((t.memRead t.cpu.sp).2.memRead (t.cpu.sp + 1)).1 (t.memRead t.cpu.sp).1 = v := by
  obtain ⟨hstores, hsp⟩ := h
  have hsp1 : t.cpu.sp + 1 = s.cpu.sp - 1 := by rw [hsp]; bv_omega
  have hn1 : (s.cpu.sp - 1).toNat = s.cpu.sp.toNat - 1 := by bv_omega
  have hn2 : (s.cpu.sp - 2).toNat = s.cpu.sp.toNat - 2 := by bv_omega
  have hp1 : ramPlace (s.cpu.sp - 1) = some (s.cpu.sp - 1).toNat := ramPlace_wram (by omega) (by omega)
  have hp2 : ramPlace (s.cpu.sp - 2) = some (s.cpu.sp - 2).toNat := ramPlace_wram (by omega) (by omega)
  obtain ⟨hb1, hb2, hkept⟩ := hstores.byteAt_of_ramPlace hp1 hp2 (by omega)
  have hfree : t.dma.remaining = 0 := (congrArg Dma.remaining hkept).trans hdma
  rw [hsp1, hsp, State.memRead_of_noDma_ramPlace hfree hp2, State.memRead_of_noDma_ramPlace hfree hp1, hb1, hb2,
    word16_hiByte_loByte]

theorem Pushes.sp_add_two {v : Addr} (h : Pushes n v s t) : t.cpu.sp + 2 = s.cpu.sp := by
  obtain ⟨-, hsp⟩ := h
  rw [hsp, BitVec.sub_add_cancel]

/-- Settles O37: both pairs are two pushes and then a pop from where they end, which reads them back (`Pushes.popped`). -/
theorem stackRoundTrip : Obligations.StackRoundTrip := by
  intro s hwf hdma hlo hhi
  have hstack : StackFree s := ⟨State.dmaHolds_of_noDma hdma _, State.dmaHolds_of_noDma hdma _⟩
  refine ⟨fun n => ?_, fun p q => ?_⟩
  · refine (Completes.of_callTo rfl hwf hstack).mono fun t ⟨hpc, hpush, _⟩ => ⟨hpc, ?_⟩
    refine (Completes.of_retFrom rfl).mono fun u ⟨hupc, husp, _⟩ => ⟨?_, husp.trans hpush.sp_add_two⟩
    exact hupc.trans (hpush.popped hdma hlo hhi)
  · refine ((pushStoresPairBelowStack p).2 s hwf hstack).mono fun t ⟨hpush, _⟩ => ?_
    refine ((popLoadsPairFromStack q).2 t).mono fun u ⟨hupair, husp, _⟩ => ⟨?_, husp.trans hpush.sp_add_two⟩
    rw [hupair, hpush.popped hdma hlo hhi]

end Sys2Proof.Machine
end

section
/-! The system instructions (`spec/45_system.md` R500 to R510): the illegal opcodes, those that only write the CPU's
control state, `STOP` with the edge it causes (`spec/60_exceptions.md` R624), and the prefix of the 0xCB page. -/

namespace Sys2Proof.Machine

variable {s t : State} {i : Instr} {n : Nat}

/-! ## Illegal opcodes -/

theorem encode_illegal (o : IllegalOp) : encode (.illegal o) = [codeIllegal o] := by cases o <;> rfl

theorem opcodeOf_illegal (o : IllegalOp) : opcodeOf (.illegal o) = codeIllegal o := by
  rw [opcodeOf, encode_illegal]
  rfl

/-- Settles O40: each is `illegalOpcode` of its own byte. -/
theorem illegalOpcodesFault : Obligations.IllegalOpcodesFault := by
  intro o s
  refine ⟨encode_illegal o, ?_⟩
  rw [exec_illegal, opcodeOf_illegal]
  rfl

/-! ## The control state of the CPU -/

/-- An instruction that writes the CPU alone. -/
theorem Completes.of_withCpu {c : Cpu} (hexec : exec i s = done n { s with cpu := c }) :
    Completes i s fun t => t.cpu = c ∧ NoDraw s t ∧ DevicesKept s t ∧ MemoryKept s t ∧ Costs n s t :=
  .of_done hexec ⟨rfl, rfl, ⟨rfl, rfl, rfl, rfl, rfl, rfl, rfl⟩, fun _ => rfl, rfl, rfl⟩

theorem State.ite_withCpu (s : State) (p : Prop) [Decidable p] (c d : Cpu) :
    (if p then { s with cpu := c } else { s with cpu := d }) = { s with cpu := if p then c else d } :=
  (apply_ite (fun x : Cpu => { s with cpu := x }) p c d).symm

theorem exec_ei_eq (s : State) :
    exec .ei s =
      done 4
        { s with cpu := if s.cpu.ime = false ∧ s.cpu.eiDelay = 0 then { s.cpu with eiDelay := 2 } else s.cpu } :=
  congrArg (done 4) (s.ite_withCpu _ _ s.cpu)

/-- R642, one case for each value of the delay. -/
theorem State.eiDelayUpdate_cases (s : State) :
    (s.cpu.eiDelay = 2 → s.eiDelayUpdate = { s with cpu := { s.cpu with eiDelay := 1 } })
      ∧ (s.cpu.eiDelay = 1 → s.eiDelayUpdate = { s with cpu := { s.cpu with ime := true, eiDelay := 0 } })
      ∧ (s.cpu.eiDelay = 0 → s.eiDelayUpdate = s) := by
  unfold State.eiDelayUpdate
  refine ⟨fun h => if_pos h, fun h => ?_, fun h => ?_⟩
  · rw [if_neg (by rw [h]; decide), if_pos h]
  · rw [if_neg (by rw [h]; decide), if_neg (by rw [h]; decide)]

/-- Settles O38: `DI` and `EI` write the CPU alone, and the delay is `eiDelayUpdate_cases`. -/
theorem nopAndInterruptEnable : Obligations.NopAndInterruptEnable :=
  ⟨⟨rfl, rfl, rfl⟩, fun _ => .of_done_self rfl, fun _ => .of_withCpu rfl, fun s => .of_withCpu (exec_ei_eq s),
    State.eiDelayUpdate_cases⟩

/-! ## `HALT` -/

theorem setWidth_eq_zero_iff (x : BitVec 5) : x.setWidth 8 = 0 ↔ x = 0 := by
  revert x
  decide

/-- IF holds five requests, so the mask takes no bit that IF has. -/
theorem Irq.masked_eq_enabledRequests (q : Irq) :
    q.ie &&& q.req.setWidth 8 &&& 0x1F = q.enabledRequests.setWidth 8 := by
  have hmask : ∀ k < 8, (0x1F : Byte).getLsbD k = decide (k < 5) := by decide
  apply BitVec.eq_of_getLsbD_eq
  intro k hk
  simp only [Irq.enabledRequests, BitVec.getLsbD_and, BitVec.getLsbD_setWidth, hmask k hk, hk, decide_true,
    Bool.true_and]
  rw [Bool.and_comm, Bool.and_assoc]

/-- R612: `pending()` by the two registers as bytes. -/
theorem State.pending_iff_masked (s : State) :
    s.pending = true ↔ s.irq.ie &&& s.irq.req.setWidth 8 &&& 0x1F ≠ 0 := by
  rw [State.pending, bne_iff_ne, Irq.masked_eq_enabledRequests, ne_eq, ne_eq, setWidth_eq_zero_iff]

theorem exec_halt_eq (s : State) :
    exec .halt s =
      done 4
        { s with
          cpu :=
            if s.cpu.ime = false ∧ s.irq.ie &&& s.irq.req.setWidth 8 &&& 0x1F ≠ 0 then { s.cpu with haltBug := true }
            else { s.cpu with mode := .halted } } := by
  rw [← State.ite_withCpu]
  simp only [← s.pending_iff_masked]
  rfl

/-! ## `STOP` (R510) -/

theorem ofNat_toNat_add_one (v : Byte) : BitVec.ofNat 8 (v.toNat + 1) = v + 1 := by
  rw [BitVec.ofNat_add, BitVec.ofNat_toNat, BitVec.setWidth_eq]
  rfl

/-- The counter cleared leaves the detector at 0, so that its edge falls exactly if the detector was 1. -/
theorem State.clearCounter_fallingEdge (s : State) :
    s.clearCounter =
      { s with
        timer :=
          { s.timer with
            counter := 0
            signal := false
            tima :=
              if s.timer.signal = true then if s.timer.tima = 0xFF then s.timer.tma else s.timer.tima + 1
              else s.timer.tima }
        irq :=
          { s.irq with
            req := if s.timer.signal = true ∧ s.timer.tima = 0xFF then s.irq.req ||| 0b00100 else s.irq.req } } := by
  rw [s.clearCounter_eq, State.timerWritten, ofNat_toNat_add_one]
  simp only [true_and, and_true]

/-- Settles O39: `HALT` writes the CPU alone, `STOP` the CPU and what `clearCounter_fallingEdge` says. -/
theorem haltAndStop : Obligations.HaltAndStop := by
  refine ⟨⟨rfl, fun _ => rfl⟩, fun s => .of_withCpu (exec_halt_eq s), fun b s => ?_⟩
  have hexec : exec (.stop b) s =
    done 4 { s.clearCounter with cpu := { s.clearCounter.cpu with mode := .stopped } } := rfl
  rw [s.clearCounter_fallingEdge] at hexec
  exact .of_done hexec
    ⟨rfl, rfl, rfl, rfl, rfl, rfl, rfl, rfl, rfl, rfl, rfl, rfl, rfl, rfl, fun _ => rfl, rfl, rfl⟩

/-! ## The prefix (R501) -/

/-- An instruction of the 0xCB page faults by its store to HL alone, so not where OAM DMA leaves HL free. -/
theorem cbPage_keeps_fault (o : Byte) (hfree : s.dmaHolds s.hl = false) :
    ∃ t, cbPage o s = .next t ∧ t.fault = s.fault := by
  unfold cbPage
  dsimp only
  split
  · exact ⟨_, rfl, by simp⟩
  · exact ⟨_, updMem_ok s _ _ _ hfree, by simp⟩
  · exact ⟨_, rfl, by simp⟩
  · exact ⟨_, rfl, by simp⟩
  · exact ⟨_, rfl, by simp⟩
  · exact ⟨_, mapMem_ok s _ _ hfree, by simp⟩
  · exact ⟨_, rfl, by simp⟩
  · exact ⟨_, mapMem_ok s _ _ hfree, by simp⟩

/-- Settles O33: the page by fields is the decoded instruction (`exec_decodeCb`), and the fetch moves PC alone. -/
theorem prefixRunsSecondByte : Obligations.PrefixRunsSecondByte := by
  intro s
  refine ⟨?_, ?_, fun hdma => ?_⟩
  · have hbyte : s.fetch8.1 = (s.memRead s.cpu.pc).1 := by rw [s.fetch8_spec]
    rw [exec_decodeCb, ← hbyte]
    rfl
  · rw [s.fetch8_spec]
    rfl
  · have hkept : s.fetch8.2.fault = s.fault ∧ s.fetch8.2.dma = s.dma := by
      rw [s.fetch8_spec]
      exact ⟨rfl, rfl⟩
    obtain ⟨hfault, hdma'⟩ := hkept
    have hfree : s.fetch8.2.dmaHolds s.fetch8.2.hl = false :=
      State.dmaHolds_of_noDma ((congrArg Dma.remaining hdma').trans hdma) _
    obtain ⟨t, hexec, ht⟩ := cbPage_keeps_fault s.fetch8.1 hfree
    exact ⟨t, hexec, ht.trans hfault⟩

end Sys2Proof.Machine
end

section
/-! The step by its branches (`spec/60_exceptions.md` R640): one equation for each of them, and which of them a step
can have taken. -/

namespace Sys2Proof.Machine

/-- The state in which a step chooses its branch: its record cleared, the joypad sampled (R631). -/
def State.sampled (s : State) : State := s.beginStep.joypadSample

/-- The sample touches `p1_lines_prev` and the requests, and the record of the step is cleared. -/
theorem State.sampled_spec (s : State) :
    ∃ q, s.sampled =
      { s with
        joypad := { s.joypad with linesPrev := s.joypad.lines }
        irq := { s.irq with req := q }
        info := StepInfo.none } := by
  obtain ⟨q, hq⟩ := s.beginStep.joypadSample_spec
  exact ⟨q, hq⟩

@[simp] theorem State.cpu_sampled (s : State) : s.sampled.cpu = s.cpu := by
  obtain ⟨q, hq⟩ := s.sampled_spec
  rw [hq]

@[simp] theorem State.fault_sampled (s : State) : s.sampled.fault = s.fault := by
  obtain ⟨q, hq⟩ := s.sampled_spec
  rw [hq]

@[simp] theorem State.info_sampled (s : State) : s.sampled.info = StepInfo.none := by
  obtain ⟨q, hq⟩ := s.sampled_spec
  rw [hq]

@[simp] theorem State.dma_sampled (s : State) : s.sampled.dma = s.dma := by
  obtain ⟨q, hq⟩ := s.sampled_spec
  rw [hq]

/-! ## The branches -/

variable {s t : State}

theorem State.idle_iff (s : State) : s.idle = true ↔ s.fault ≠ none ∨ s.cart.status ≠ .loaded := by
  rw [State.idle, Bool.or_eq_true, decide_eq_true_eq, Or.comm, Option.isSome_iff_ne_none]

theorem State.not_idle (hload : s.cart.status = .loaded) (hfault : s.fault = none) : s.idle = false :=
  Bool.eq_false_iff.mpr fun h => ((s.idle_iff).mp h).elim (· hfault) (· hload)

theorem State.fault_of_not_idle (h : s.idle = false) : s.fault = none := by
  by_contra hfault
  exact Bool.false_ne_true (h.symm.trans ((s.idle_iff).mpr (.inl hfault)))

/-- A step that happens goes by the mode of the CPU (R640). -/
theorem step_of_not_idle (h : s.idle = false) :
    step s =
      match s.cpu.mode with
      | .stopped => .next s.sampled.stoppedStep
      | .halted => .next s.sampled.haltedStep
      | .running =>
        if s.sampled.interruptTaken then .next (dispatchStep s.beginStep s.sampled)
        else stepInstr s.beginStep s.sampled := by
  rw [← s.cpu_sampled]
  exact (if_neg (ne_true_of_eq_false h)).trans rfl

theorem step_of_stopped (h : s.idle = false) (hmode : s.cpu.mode = .stopped) :
    step s = .next s.sampled.stoppedStep := by rw [step_of_not_idle h, hmode]

theorem step_of_halted (h : s.idle = false) (hmode : s.cpu.mode = .halted) :
    step s = .next s.sampled.haltedStep := by rw [step_of_not_idle h, hmode]

theorem step_of_interruptTaken (h : s.idle = false) (hmode : s.cpu.mode = .running)
    (hint : s.sampled.interruptTaken = true) : step s = .next (dispatchStep s.beginStep s.sampled) := by
  rw [step_of_not_idle h, hmode]
  exact if_pos hint

theorem step_of_not_interruptTaken (h : s.idle = false) (hmode : s.cpu.mode = .running)
    (hint : s.sampled.interruptTaken = false) : step s = stepInstr s.beginStep s.sampled := by
  rw [step_of_not_idle h, hmode]
  exact if_neg (ne_true_of_eq_false hint)

/-- An instruction that answers a next state ends the step (R640). -/
theorem stepInstr_of_exec {s0 s1 : State} {i : Instr} (hdecode : decode s1.fetchInstr.1 = .ok i)
    (hexec : exec i s1.fetchInstr.2 = .next t) : stepInstr s0 s1 = .next (endInstr s0 t) := by
  unfold stepInstr
  dsimp only
  rw [hdecode]
  dsimp only
  rw [hexec]

/-- The branches of a step that answers a next state. -/
inductive Steps (s : State) : State → Prop
  | idle (h : s.idle = true) : Steps s s
  | stopped (h : s.idle = false) (hmode : s.cpu.mode = .stopped) : Steps s s.sampled.stoppedStep
  | halted (h : s.idle = false) (hmode : s.cpu.mode = .halted) : Steps s s.sampled.haltedStep
  | dispatch (h : s.idle = false) (hmode : s.cpu.mode = .running) (hint : s.sampled.interruptTaken = true) :
      Steps s (dispatchStep s.beginStep s.sampled)
  | instr (h : s.idle = false) (hmode : s.cpu.mode = .running) {i : Instr} {u : State}
      (hdecode : decode s.sampled.fetchInstr.1 = .ok i) (hexec : exec i s.sampled.fetchInstr.2 = .next u) :
      Steps s (endInstr s.beginStep u)

theorem stepInstr_eq_next {s0 s1 : State} (h : stepInstr s0 s1 = .next t) :
    ∃ i u, decode s1.fetchInstr.1 = .ok i ∧ exec i s1.fetchInstr.2 = .next u ∧ t = endInstr s0 u := by
  unfold stepInstr at h
  dsimp only at h
  split at h
  · cases h
  · rename_i i hdecode
    split at h <;> cases h
    rename_i u hexec
    exact ⟨i, u, hdecode, hexec, rfl⟩

theorem Steps.of_step (h : step s = .next t) : Steps s t := by
  cases hidle : s.idle with
  | true =>
    cases (step_of_idle hidle).symm.trans h
    exact .idle hidle
  | false =>
    cases hmode : s.cpu.mode with
    | stopped =>
      cases (step_of_stopped hidle hmode).symm.trans h
      exact .stopped hidle hmode
    | halted =>
      cases (step_of_halted hidle hmode).symm.trans h
      exact .halted hidle hmode
    | running =>
      cases hint : s.sampled.interruptTaken with
      | true =>
        cases (step_of_interruptTaken hidle hmode hint).symm.trans h
        exact .dispatch hidle hmode hint
      | false =>
        obtain ⟨i, u, hdecode, hexec, rfl⟩ :=
          stepInstr_eq_next ((step_of_not_interruptTaken hidle hmode hint).symm.trans h)
        exact .instr hidle hmode hdecode hexec

/-! ## The ends of a step -/

theorem State.eiDelayUpdate_keeps (s : State) :
    s.eiDelayUpdate.cpu.mode = s.cpu.mode ∧ s.eiDelayUpdate.info = s.info ∧ s.eiDelayUpdate.fault = s.fault := by
  obtain ⟨i, d, he, -⟩ := s.eiDelayUpdate_spec
  rw [he]
  exact ⟨rfl, rfl, rfl⟩

theorem State.advance_of_stopped (h : s.cpu.mode = .stopped) : s.advance = s := if_pos h

theorem State.advance_of_not_stopped (h : s.cpu.mode ≠ .stopped) : s.advance = advanceDevices s.info.cycles s :=
  if_neg h

/-- The devices' advance leaves the CPU and the fault as they are, in every mode. -/
theorem State.advance_keeps (s : State) : s.advance.cpu = s.cpu ∧ s.advance.fault = s.fault := by
  unfold State.advance
  split
  · exact ⟨rfl, rfl⟩
  · obtain ⟨t, se, p, d, q, l, h⟩ := advanceDevices_spec s.info.cycles s
    rw [h]
    exact ⟨rfl, rfl⟩

@[simp] theorem State.cpu_advance (s : State) : s.advance.cpu = s.cpu := s.advance_keeps.1

@[simp] theorem State.fault_advance (s : State) : s.advance.fault = s.fault := s.advance_keeps.2

/-- An instruction that faulted leaves the state at the start of the step with the record set (R602). -/
theorem endInstr_of_fault {s0 : State} {r : FaultRecord} (h : t.fault = some r) :
    endInstr s0 t = s0.raise { record := r, draws := t.draws } := by rw [endInstr, h]

theorem endInstr_of_noFault {s0 : State} (h : t.fault = none) : endInstr s0 t = t.eiDelayUpdate.advance := by
  rw [endInstr, h]

/-- R640: the step of an instruction that reached `t`. -/
theorem step_of_exec {i : Instr} (h : s.idle = false) (hmode : s.cpu.mode = .running)
    (hint : s.sampled.interruptTaken = false) (hdecode : decode s.sampled.fetchInstr.1 = .ok i)
    (hexec : exec i s.sampled.fetchInstr.2 = .next t) : step s = .next (endInstr s.beginStep t) :=
  (step_of_not_interruptTaken h hmode hint).trans (stepInstr_of_exec hdecode hexec)

/-- Settles O9: `endInstr` by whether the instruction faulted, and the advance by whether it stopped the CPU. -/
theorem stepRunsDecodedInstruction : Obligations.StepRunsDecodedInstruction := by
  rintro s _ t i hload hfault hmode rfl hime hdecode - hexec
  have hint : s.sampled.interruptTaken = false := by
    rw [State.interruptTaken, s.cpu_sampled]
    rcases hime with himeOff | hnone
    · rw [himeOff, Bool.false_and]
    · exact (congrArg _ hnone).trans (Bool.and_false _)
  have hstep : step s = .next (endInstr s.beginStep t) :=
    step_of_exec (State.not_idle hload hfault) hmode hint hdecode hexec
  obtain ⟨hmode', hinfo, -⟩ := t.eiDelayUpdate_keeps
  refine ⟨fun hnone hrun => ?_, fun hnone hstop => ?_, fun r hr => ?_⟩
  · rw [hstep, endInstr_of_noFault hnone, State.advance_of_not_stopped (hmode' ▸ hrun), hinfo]
  · rw [hstep, endInstr_of_noFault hnone, State.advance_of_stopped (hmode'.trans hstop)]
  · have hrecord : s.beginStep.joypadSample.info = s.beginStep.info := s.info_sampled
    rw [hstep, endInstr_of_fault hr]
    exact congrArg (fun i => Host.Outcome.next { s with info := i, fault := some r, draws := t.draws }) hrecord.symm

/-! ## The waiting modes (R641, R643) -/

/-- R641: the four T-cycles and the wake-up, and then the devices' advance. -/
theorem State.haltedStep_eq (s : State) (hmode : s.cpu.mode = .halted) :
    s.haltedStep =
      advanceDevices (s.info.cycles + 4)
        { s with
          cpu := { s.cpu with mode := if s.pending = true then .running else .halted }
          info := { s.info with cycles := s.info.cycles + 4 } } := by
  cases hpending : s.pending with
  | true =>
    rw [State.haltedStep, if_pos hpending, State.advance_of_not_stopped CpuMode.noConfusion]
    rfl
  | false =>
    have hkept : ({ s.cpu with mode := .halted } : Cpu) = s.cpu := by rw [← hmode]
    have hrun : (s.addCycles 4).cpu.mode ≠ .stopped := hmode.trans_ne CpuMode.noConfusion
    rw [State.haltedStep, if_neg (ne_true_of_eq_false hpending), State.advance_of_not_stopped hrun,
      if_neg Bool.false_ne_true, hkept]
    rfl

/-- R643: the four T-cycles and the wake-up. -/
theorem State.stoppedStep_eq (s : State) (hmode : s.cpu.mode = .stopped) :
    s.stoppedStep =
      { s with
        cpu := { s.cpu with mode := if s.joypad.lines = 0xF then .stopped else .running }
        info := { s.info with cycles := s.info.cycles + 4 } } := by
  by_cases hlines : s.joypad.lines = 0xF
  · have hkept : ({ s.cpu with mode := .stopped } : Cpu) = s.cpu := by rw [← hmode]
    rw [State.stoppedStep, if_neg (not_not_intro hlines), if_pos hlines, hkept]
    rfl
  · rw [State.stoppedStep, if_pos hlines, if_neg hlines]
    rfl

/-- Settles O43: the two waiting branches of the step, with the record cleared at its start. -/
theorem haltedAndStoppedSteps : Obligations.HaltedAndStoppedSteps := by
  intro s u hload hfault hu
  obtain rfl : u = s.sampled := hu
  have hidle := State.not_idle hload hfault
  have hcost : StepInfo.none.cycles + 4 = 4 := rfl
  refine ⟨fun hmode => ?_, fun hmode => ?_⟩
  · rw [step_of_halted hidle hmode, State.haltedStep_eq _ (by rw [s.cpu_sampled, hmode]), s.info_sampled, hcost]
  · rw [step_of_stopped hidle hmode, State.stoppedStep_eq _ (by rw [s.cpu_sampled, hmode]), s.info_sampled, hcost]

end Sys2Proof.Machine
end

section
/-! Taking an interrupt (`spec/60_exceptions.md` R612 to R615): the request served, the dispatch and the step that it
takes; and what a step that faults leaves (R602). -/

namespace Sys2Proof.Machine

variable {s t : State}

/-! ## The request served (R612, R613) -/

theorem Irq.getLsbD_enabledRequests (q : Irq) (i : Nat) :
    q.enabledRequests.getLsbD i = (decide (i < 5) && q.ie.getLsbD i && q.req.getLsbD i) := by
  rw [Irq.enabledRequests, BitVec.getLsbD_and, BitVec.getLsbD_setWidth]

/-- R612: `pending()` is that some request is set and enabled. -/
theorem State.pending_iff (s : State) :
    s.pending = true ↔ ∃ i, i < 5 ∧ s.irq.ie.getLsbD i = true ∧ s.irq.req.getLsbD i = true := by
  have hbits : s.irq.enabledRequests ≠ 0 ↔ ∃ i, s.irq.enabledRequests.getLsbD i = true := by
    rw [← not_iff_not, not_not, not_exists]
    refine ⟨fun h i => ?_, fun h => BitVec.eq_of_getLsbD_eq fun i _ => ?_⟩
    · rw [h]
      exact ne_true_of_eq_false BitVec.getLsbD_zero
    · rw [Bool.eq_false_iff.mpr (h i)]
      exact BitVec.getLsbD_zero.symm
  rw [State.pending, bne_iff_ne, hbits]
  simp only [Irq.getLsbD_enabledRequests, Bool.and_eq_true, decide_eq_true_eq, and_assoc]

/-- R613: the lowest set bit is set, and none below it is. -/
theorem lowestBit_spec (v : BitVec 5) (h : v ≠ 0) :
    lowestBit v < 5 ∧ v.getLsbD (lowestBit v) = true ∧ ∀ j < lowestBit v, v.getLsbD j = false := by
  revert v
  decide

theorem toNat_vector {i : Nat} (h : i < 5) : (vector i).toNat = 0x40 + 8 * i := by
  rw [vector, BitVec.toNat_ofNat]
  omega

/-! ## The dispatch -/

/-- The CPU after a dispatch: IME and the halt bug cleared, SP below the return address, PC at the vector. -/
def State.dispatchedCpu (s : State) : Cpu :=
  { s.cpu with
    ime := false
    haltBug := false
    sp := s.cpu.sp - 2
    pc := vector (lowestBit s.irq.enabledRequests) }

/-- The request served is cleared, and the pushed PC recorded for a fault (R601); the CPU is as before. -/
def State.serving (s : State) : State :=
  { s with
    irq := { s.irq with req := s.irq.req &&& ~~~((1 : BitVec 5) <<< lowestBit s.irq.enabledRequests) }
    info := { s.info with instPc := s.returnAddr } }

/-- The two bus writes of the return address. -/
def State.returnAddrPushed (s : State) : State :=
  (s.serving.busWrite (s.cpu.sp - 1) (hiByte s.returnAddr)).busWrite (s.cpu.sp - 2) (loByte s.returnAddr)

/-- The state after a dispatch that completes: two bus writes, the CPU of `dispatchedCpu` and the cost. -/
def State.dispatched (s : State) : State := { s.returnAddrPushed with cpu := s.dispatchedCpu }.addCycles 20

theorem State.dispatchInterrupt_eq (h : StackFree s) : s.dispatchInterrupt = .ok s.dispatched := by
  obtain ⟨h1, h2⟩ := h
  have hcpu : s.dispatching = { s.serving with cpu := { s.cpu with ime := false, haltBug := false } } := rfl
  rw [s.dispatchInterrupt_ok h1 h2, hcpu, s.serving.busWrite_withCpu, (s.serving.busWrite _ _).busWrite_withCpu]
  rfl

@[simp] theorem State.cycles_busWrite (s : State) (a : Addr) (v : Byte) :
    (s.busWrite a v).info.cycles = s.info.cycles := by rw [s.info_busWrite]

/-- A dispatch raises no fault and costs 20 T-cycles. -/
theorem State.dispatched_keeps (s : State) :
    s.dispatched.fault = s.fault ∧ s.dispatched.info.cycles = s.info.cycles + 20 := by
  simp [State.dispatched, State.returnAddrPushed, State.serving]

/-- Settles O41: the request by `lowestBit_spec`, the rest by the two bus writes of `dispatchInterrupt_eq`. -/
theorem dispatchServesLowestRequest : Obligations.DispatchServesLowestRequest := by
  refine ⟨State.pending_iff, fun s hwf hpending hstack => ?_⟩
  obtain ⟨hlt, hset, hlower⟩ := lowestBit_spec s.irq.enabledRequests (bne_iff_ne.mp hpending)
  rw [Irq.getLsbD_enabledRequests, Bool.and_eq_true, Bool.and_eq_true] at hset
  obtain ⟨⟨-, hie⟩, hreq⟩ := hset
  refine ⟨_, lowestBit s.irq.enabledRequests, State.dispatchInterrupt_eq hstack, hlt, hie, hreq, fun j hj => ?_,
    toNat_vector hlt, rfl, rfl, rfl, rfl, fun r _ => by cases r <;> rfl, rfl, ?_, rfl⟩
  · have hj' := hlower j hj
    rwa [Irq.getLsbD_enabledRequests, decide_eq_true (hj.trans hlt), Bool.true_and] at hj'
  · exact (StoresTwo.of_busWrite s.serving _ _ _ _ hwf).addCycles 20

/-! ## The step that dispatches (R614, R615) -/

theorem dispatchStep_of_ok {s0 : State} (h : s.dispatchInterrupt = .ok t) : dispatchStep s0 s = t.advance := by
  rw [dispatchStep, h]

theorem dispatchStep_of_error {s0 : State} {e : FaultRaised} (h : s.dispatchInterrupt = .error e) :
    dispatchStep s0 s = s0.raise e := by
  rw [dispatchStep, h]

/-- Where OAM DMA holds a byte of the stack, the dispatch raises the fault of its first refused push. -/
theorem State.dispatchInterrupt_refused {a : Addr}
    (h : s.dmaHolds (s.cpu.sp - 1) = true ∧ a = s.cpu.sp - 1
      ∨ s.dmaHolds (s.cpu.sp - 1) = false ∧ s.dmaHolds (s.cpu.sp - 2) = true ∧ a = s.cpu.sp - 2) :
    s.dispatchInterrupt =
      .error
        { record := { kind := .dmaBusConflict, pc := s.returnAddr, addr := a, opcode := 0x00 }, draws := s.draws } := by
  rcases h with ⟨h1, rfl⟩ | ⟨h1, h2, rfl⟩
  · exact s.dispatchInterrupt_error h1
  · exact s.dispatchInterrupt_error_low h1 h2

/-- The two endings of a dispatch. -/
theorem State.dispatchInterrupt_cases (s : State) :
    StackFree s ∨ ∃ e, s.dispatchInterrupt = .error e := by
  cases h1 : s.dmaHolds (s.cpu.sp - 1) with
  | true => exact .inr ⟨_, s.dispatchInterrupt_error h1⟩
  | false =>
    cases h2 : s.dmaHolds (s.cpu.sp - 2) with
    | true => exact .inr ⟨_, s.dispatchInterrupt_error_low h1 h2⟩
    | false => exact .inl ⟨h1, h2⟩

/-- Settles O42: the dispatch of the sampled state by its two endings. -/
theorem stepDispatchesInterrupt : Obligations.StepDispatchesInterrupt := by
  intro s u hload hfault hmode hime hu hpending
  obtain rfl : u = s.sampled := hu
  have hint : s.sampled.interruptTaken = true := by
    rw [State.interruptTaken, s.cpu_sampled, hime, hpending, Bool.true_and]
  rw [step_of_interruptTaken (State.not_idle hload hfault) hmode hint]
  refine ⟨fun t hok => ?_, fun a ha => ⟨s.sampled.draws, ?_⟩⟩
  · obtain hfree | ⟨e, herror⟩ := s.sampled.dispatchInterrupt_cases
    · obtain rfl := Except.ok.inj ((State.dispatchInterrupt_eq hfree).symm.trans hok)
      have hrun : s.sampled.dispatched.cpu.mode = .running := (congrArg Cpu.mode s.cpu_sampled).trans hmode
      have hcost : s.sampled.dispatched.info.cycles = 20 := by
        rw [s.sampled.dispatched_keeps.2, s.info_sampled]
        rfl
      rw [dispatchStep_of_ok hok, State.advance_of_not_stopped (hrun.trans_ne (by decide)), hcost]
    · cases herror.symm.trans hok
  · have hholds : ∀ x, s.sampled.dmaHolds x = s.dmaHolds x := State.dmaHolds_congr s.dma_sampled
    rw [dispatchStep_of_error (State.dispatchInterrupt_refused (a := a) (by rwa [hholds, hholds, s.cpu_sampled])),
      s.info_sampled, State.returnAddr_eq, s.cpu_sampled]
    rfl

/-! ## A step that faults (R602) -/

theorem State.fault_haltedStep (s : State) : s.haltedStep.fault = s.fault := by
  unfold State.haltedStep
  dsimp only
  split
  · exact State.fault_advance _
  · exact State.fault_advance _

theorem State.fault_eiDelayUpdate (s : State) : s.eiDelayUpdate.fault = s.fault := s.eiDelayUpdate_keeps.2.2

/-- Settles O11: only a refused dispatch and a faulted instruction set a record, and both go back to the start of the
step. -/
theorem faultedStepChangesOnlyTheFault : Obligations.FaultedStepChangesOnlyTheFault := by
  intro s t r hnone hstep hr
  have hsampled : s.sampled.fault = none := s.fault_sampled.trans hnone
  have no_record {u : State} (hu : u.fault = none) : u.fault ≠ some r := hu.trans_ne (Option.some_ne_none r).symm
  have raised (e : FaultRaised) (he : (s.beginStep.raise e).fault = some r) :
      s.beginStep.raise e = { s.beginStep with fault := some r, draws := (s.beginStep.raise e).draws } := by
    rw [← he]
    rfl
  cases Steps.of_step hstep with
  | idle => exact absurd hr (no_record hnone)
  | stopped _ hmode =>
    rw [State.stoppedStep_eq _ (by rw [s.cpu_sampled, hmode])] at hr
    exact absurd hr (no_record hsampled)
  | halted => exact absurd hr (no_record (s.sampled.fault_haltedStep.trans hsampled))
  | dispatch =>
    obtain hfree | ⟨e, herror⟩ := s.sampled.dispatchInterrupt_cases
    · rw [dispatchStep_of_ok (State.dispatchInterrupt_eq hfree), State.fault_advance] at hr
      exact absurd hr (no_record (s.sampled.dispatched_keeps.1.trans hsampled))
    · rw [dispatchStep_of_error herror] at hr ⊢
      exact raised e hr
  | @instr _ _ i u _ _ =>
    cases hu : u.fault with
    | none =>
      rw [endInstr_of_noFault hu, State.fault_advance, State.fault_eiDelayUpdate] at hr
      exact absurd hr (no_record hu)
    | some q =>
      rw [endInstr_of_fault hu] at hr ⊢
      exact raised _ hr

end Sys2Proof.Machine
end

section
/-! The joypad, the timer and the serial port (`spec/60_exceptions.md` R620 to R631): the lines and their sample, the
falling edges in a period of the timer, and a transfer of eight bits. -/

namespace Sys2Proof.Machine

variable {s : State}

/-! ## The joypad (R630, R631, R783, R784) -/

/-- A line fell from `p` to `l` exactly if the sample's mask is not 0. -/
theorem fallen_iff (p l : BitVec 4) :
    p &&& ~~~l ≠ 0 ↔ ∃ k, k < 4 ∧ p.getLsbD k = true ∧ l.getLsbD k = false := by
  revert p l
  decide

theorem State.joypadSample_eq (s : State) :
    s.joypadSample =
      { s with
        joypad := { s.joypad with linesPrev := s.joypad.lines }
        irq := { s.irq with
          req := if s.joypad.linesPrev &&& ~~~s.joypad.lines ≠ 0 then s.irq.req ||| 0b10000 else s.irq.req } } := by
  unfold State.joypadSample
  dsimp only
  split <;> rfl

theorem Keys.get_set (k : Keys) (key q : Key) (b : Bool) :
    (k.set key b).get q = if q = key then b else k.get q := by
  cases key <;> cases q <;> rfl

/-- Settles O44: the lines bit by bit, the sample by `fallen_iff`, the keys by `Keys.get_set`. -/
theorem joypadLinesAndRequest : Obligations.JoypadLinesAndRequest := by
  refine ⟨Joypad.getLsbD_lines, fun s => ?_, fun s k q b => ⟨s.joypad.keys.get_set k q b, rfl⟩⟩
  refine ⟨decide (s.joypad.linesPrev &&& ~~~s.joypad.lines ≠ 0), ?_, ?_⟩
  · rw [decide_eq_true_eq]
    exact fallen_iff _ _
  · rw [s.joypadSample_eq]
    simp only [decide_eq_true_eq]

/-! ## One T-cycle of the timer (R620 to R623) -/

theorem tacBit_eq_timerBit (tac : BitVec 3) : tacBit tac = timerBit tac.toNat := by
  revert tac
  decide

theorem Timer.sig_eq (t : Timer) : t.sig = (t.tac.getLsbD 2 && t.counter.getLsbD (timerBit t.tac.toNat)) := by
  rw [Timer.sig, tacBit_eq_timerBit]

/-- The timer whose counter has moved one on, before its edge is taken. -/
def Timer.counted (t : Timer) : Timer := { t with counter := t.counter + 1 }

/-- A T-cycle of the timer is the clock edge of the counter one on. -/
theorem State.timerTick_eq (s : State) :
    s.timerTick = s.timerWritten (s.timer.counter + 1) s.timer.tac s.timer.counted.sig :=
  s.timerEdge_eq_timerWritten (s.timer.counter + 1) s.timer.tac

theorem State.sig_timerTick (s : State) : s.timerTick.timer.sig = s.timer.counted.sig := by
  rw [s.timerTick_eq]
  rfl

/-- R622: TIMA after one T-cycle. -/
theorem State.tima_timerTick (s : State) :
    s.timerTick.timer.tima =
      if s.timer.signal = true ∧ s.timer.counted.sig = false then
        if s.timer.tima = 0xFF then s.timer.tma else s.timer.tima + 1
      else s.timer.tima := by
  rw [s.timerTick_eq, State.timerWritten, ofNat_toNat_add_one]

/-! ## The counter (R620) -/

theorem State.timer_deviceTick (s : State) : s.deviceTick.timer = s.timerTick.timer := by
  obtain ⟨p, q, hserial, -⟩ := s.timerTick.serialTick_spec
  obtain ⟨u, q', l, hppu⟩ := s.timerTick.serialTick.dmaTick.ppuDot_spec
  rw [State.deviceTick, hppu, State.dmaTick_spec, hserial]

theorem State.counter_timerTick (s : State) : s.timerTick.timer.counter = s.timer.counter + 1 := by
  rw [s.timerTick_eq]
  rfl

theorem counter_advanceDevices (n : Nat) (s : State) :
    (advanceDevices n s).timer.counter = s.timer.counter + BitVec.ofNat 16 n := by
  induction n generalizing s with
  | zero => exact (BitVec.add_zero _).symm
  | succ n ih => rw [advanceDevices, ih, s.timer_deviceTick, s.counter_timerTick, addr_add_one_add]

/-! ## A period of the timer (R621 to R623) -/

/-- The T-cycles between two falling edges of the selected bit. -/
def Timer.period (t : Timer) : Nat := 2 ^ (timerBit t.tac.toNat + 1)

theorem timerBit_cases (n : Nat) : timerBit n = 9 ∨ timerBit n = 3 ∨ timerBit n = 5 ∨ timerBit n = 7 := by
  unfold timerBit
  split_ifs <;> simp

theorem Timer.period_pos (t : Timer) : 0 < t.period := Nat.two_pow_pos _

/-- Every period divides the range of the counter. -/
theorem Timer.period_dvd (t : Timer) : t.period ∣ 65536 := by
  rcases timerBit_cases t.tac.toNat with h | h | h | h <;> rw [Timer.period, h] <;> decide

/-- A bit is set before and clear after one count exactly at the end of a period. -/
theorem getLsbD_falls_iff (c : BitVec 16) {b : Nat} (hb : b = 9 ∨ b = 3 ∨ b = 5 ∨ b = 7) :
    (c.getLsbD b = true ∧ (c + 1).getLsbD b = false) ↔ c.toNat % 2 ^ (b + 1) + 1 = 2 ^ (b + 1) := by
  have hc := c.isLt
  have hnext : (c + 1).toNat = (c.toNat + 1) % 65536 := by simp
  rw [BitVec.getLsbD, BitVec.getLsbD, hnext, Nat.testBit_eq_decide_div_mod_eq, Nat.testBit_eq_decide_div_mod_eq,
    decide_eq_true_eq, decide_eq_false_iff_not]
  rcases hb with rfl | rfl | rfl | rfl <;> omega

/-- An enabled detector falls exactly at the end of a period. -/
theorem Timer.falls_iff (t : Timer) (hen : t.tac.getLsbD 2 = true) :
    (t.sig = true ∧ t.counted.sig = false) ↔ t.counter.toNat % t.period + 1 = t.period := by
  rw [t.sig_eq, t.counted.sig_eq, Timer.counted, hen, Bool.true_and, Bool.true_and]
  exact getLsbD_falls_iff t.counter (timerBit_cases _)

/-- What T-cycles of the timer do, whatever edges fall. -/
theorem timerTick_iterate (k : Nat) (s : State) (hsig : s.timer.signal = s.timer.sig) :
    (State.timerTick^[k] s).timer.counter = s.timer.counter + BitVec.ofNat 16 k
      ∧ (State.timerTick^[k] s).timer.tac = s.timer.tac
      ∧ (State.timerTick^[k] s).timer.signal = (State.timerTick^[k] s).timer.sig := by
  induction k with
  | zero => exact ⟨(BitVec.add_zero _).symm, rfl, hsig⟩
  | succ k ih =>
    obtain ⟨hcounter, htac, -⟩ := ih
    obtain ⟨t, q, htick, ht, htac', -, hsig'⟩ := (State.timerTick^[k] s).timerTick_spec
    rw [Function.iterate_succ_apply', htick]
    refine ⟨?_, htac'.trans htac, hsig'⟩
    rw [ht, hcounter, BitVec.ofNat_add, BitVec.add_assoc]
    rfl

/-- Of at most a period of T-cycles, the one that ends a period of the counter increments TIMA. -/
theorem tima_iterate_timerTick {k : Nat} (s : State) (hen : s.timer.tac.getLsbD 2 = true)
    (hsig : s.timer.signal = s.timer.sig) (htima : s.timer.tima ≠ 0xFF) (hk : k ≤ s.timer.period) :
    (State.timerTick^[k] s).timer.tima =
      if s.timer.period ≤ s.timer.counter.toNat % s.timer.period + k then s.timer.tima + 1 else s.timer.tima := by
  have hpos := s.timer.period_pos
  have hphase := Nat.mod_lt s.timer.counter.toNat hpos
  induction k with
  | zero => exact (if_neg (by omega)).symm
  | succ k ih =>
    obtain ⟨hcounter, htac, hsig'⟩ := timerTick_iterate k s hsig
    have hperiod : (State.timerTick^[k] s).timer.period = s.timer.period := by rw [Timer.period, htac, Timer.period]
    have hcount : (State.timerTick^[k] s).timer.counter.toNat % s.timer.period =
        (s.timer.counter.toNat % s.timer.period + k) % s.timer.period := by
      rw [hcounter, Nat.mod_add_mod, ← Nat.mod_mod_of_dvd (s.timer.counter.toNat + k) s.timer.period_dvd]
      simp
    rw [Function.iterate_succ_apply', State.tima_timerTick, hsig', ih (by omega)]
    simp only [Timer.falls_iff _ (htac ▸ hen), hperiod, hcount]
    by_cases hend : s.timer.period ≤ s.timer.counter.toNat % s.timer.period + k
    · have hmod : (s.timer.counter.toNat % s.timer.period + k) % s.timer.period =
          s.timer.counter.toNat % s.timer.period + k - s.timer.period := by
        rw [Nat.mod_eq_sub_mod hend, Nat.mod_eq_of_lt (by omega)]
      rw [if_pos hend, hmod, if_neg (by omega), if_pos (by omega)]
    · rw [if_neg hend, Nat.mod_eq_of_lt (by omega), if_neg htima]
      exact if_congr (by omega) rfl rfl

theorem Timer.period_eq (t : Timer) :
    t.period =
      if t.tac.toNat % 4 = 0 then 1024
      else if t.tac.toNat % 4 = 1 then 16 else if t.tac.toNat % 4 = 2 then 64 else 256 := by
  unfold Timer.period timerBit
  split_ifs <;> rfl

/-- Settles O53: one T-cycle is `timerTick_eq`, a period of them `tima_iterate_timerTick`. -/
theorem timerCountsFallingEdges : Obligations.TimerCountsFallingEdges := by
  refine ⟨counter_advanceDevices, Timer.sig_eq, fun s => ?_, ?_⟩
  · rw [s.sig_timerTick, s.tima_timerTick, s.timerTick_eq]
    refine ⟨rfl, fun hfalls => ⟨if_pos hfalls, ?_⟩, fun hnot => ⟨if_neg hnot, ?_⟩⟩
    · simp only [State.timerWritten, hfalls, true_and]
    · have hnone : ¬(s.timer.signal = true ∧ s.timer.counted.sig = false ∧ s.timer.tima = 0xFF) :=
        fun ⟨hset, hclear, _⟩ => hnot ⟨hset, hclear⟩
      rw [State.timerWritten, if_neg hnone]
  · rintro s _ hen rfl hsig htima
    rw [← Timer.period_eq, tima_iterate_timerTick s hen hsig htima le_rfl, if_pos (Nat.le_add_left _ _)]

/-! ## The serial port (R627, R628) -/

/-- SB after a bit has come in: a 1 from the right, for there is no partner (R628). -/
def shiftedIn (sb : Byte) : Byte := BitVec.ofNat 8 (2 * sb.toNat + 1)

theorem shiftedIn_eq (sb : Byte) : sb <<< 1 ||| 1 = shiftedIn sb := by
  revert sb
  decide

theorem shiftedIn_eight (sb : Byte) : shiftedIn^[8] sb = 0xFF := by
  revert sb
  decide

/-- R628: one T-cycle of a transfer. At 512 of them a bit comes in, and the eighth bit ends the transfer. -/
theorem State.serialTick_of_transfer (s : State) (htransfer : s.serial.transfer = true)
    (hclock : s.serial.internalClock = true) (hbits : s.serial.bits < 8) (hlt : s.serial.clock < 512) :
    s.serialTick =
      { s with
        serial :=
          { sb := if s.serial.clock = 511 then shiftedIn s.serial.sb else s.serial.sb
            transfer := decide ¬(s.serial.clock = 511 ∧ s.serial.bits = 7)
            internalClock := true
            bits := if s.serial.clock = 511 then (s.serial.bits + 1) % 8 else s.serial.bits
            clock := (s.serial.clock + 1) % 512 }
        irq :=
          { s.irq with
            req := if s.serial.clock = 511 ∧ s.serial.bits = 7 then s.irq.req ||| 0b01000 else s.irq.req } } := by
  by_cases hend : s.serial.clock = 511
  · rw [← shiftedIn_eq]
    by_cases hlast : s.serial.bits = 7
    · simp [State.serialTick, State.request, htransfer, hclock, hend, hlast]
    · have hbit : (s.serial.bits + 1) % 8 = s.serial.bits + 1 := Nat.mod_eq_of_lt (by omega)
      simp [State.serialTick, htransfer, hclock, hend, hlast, hbit]
  · have hnext : (s.serial.clock + 1) % 512 = s.serial.clock + 1 := Nat.mod_eq_of_lt (by omega)
    simp [State.serialTick, htransfer, hclock, hend, hnext]

theorem State.serialTick_of_noTransfer (s : State) (h : (s.serial.transfer && s.serial.internalClock) = false) :
    s.serialTick = s := by
  rw [State.serialTick]
  exact if_neg (ne_true_of_eq_false h)

/-! ## A whole transfer -/

/-- The port with a transfer on the internal clock under way that began with `sb`: `n` T-cycles of it have passed. -/
def Serial.transferring (sb : Byte) (n : Nat) : Serial where
  sb := shiftedIn^[n / 512] sb
  transfer := true
  internalClock := true
  bits := n / 512
  clock := n % 512

/-- Before its last T-cycle a transfer moves on by one. -/
theorem State.serialTick_transferring (s : State) (sb : Byte) {n : Nat} (hn : n + 1 < 4096) :
    ({ s with serial := .transferring sb n } : State).serialTick = { s with serial := .transferring sb (n + 1) } := by
  rw [State.serialTick_of_transfer _ rfl rfl (show n / 512 < 8 by omega) (Nat.mod_lt n (by decide))]
  have hgoing : ¬(n % 512 = 511 ∧ n / 512 = 7) := by omega
  have hclock : (n % 512 + 1) % 512 = (n + 1) % 512 := Nat.mod_add_mod n 512 1
  simp only [Serial.transferring, hgoing, not_false_eq_true, decide_true, if_false, hclock]
  by_cases hend : n % 512 = 511
  · have hbit : (n + 1) / 512 = n / 512 + 1 := by omega
    have hcount : (n / 512 + 1) % 8 = n / 512 + 1 := by omega
    simp only [hend, if_true, hbit, hcount, Function.iterate_succ_apply']
  · have hbit : (n + 1) / 512 = n / 512 := by omega
    simp only [hend, if_false, hbit]

theorem State.serialTick_iterate (s : State) (sb : Byte) {n : Nat} (hn : n < 4096) :
    State.serialTick^[n] { s with serial := .transferring sb 0 } = { s with serial := .transferring sb n } := by
  induction n with
  | zero => rfl
  | succ n ih => rw [Function.iterate_succ_apply', ih (by omega), s.serialTick_transferring sb hn]

/-- The last T-cycle ends the transfer with the request. -/
theorem State.serialTick_last (s : State) (sb : Byte) :
    ({ s with serial := .transferring sb 4095 } : State).serialTick =
      { s with
        serial := { sb := 0xFF, transfer := false, internalClock := true, bits := 0, clock := 0 }
        irq := { s.irq with req := s.irq.req ||| 0b01000 } } := by
  have hport : Serial.transferring sb 4095 =
      { sb := shiftedIn^[7] sb, transfer := true, internalClock := true, bits := 7, clock := 511 } := rfl
  rw [hport, State.serialTick_of_transfer _ rfl rfl (Nat.lt_succ_self 7) (Nat.lt_succ_self 511)]
  simp only [and_self, not_true, decide_false, if_true]
  rw [← Function.iterate_succ_apply' shiftedIn, shiftedIn_eight]

/-- A write to SC is a write to the port (R627). -/
theorem State.busWrite_ff02 (s : State) (v : Byte) :
    s.busWrite 0xFF02 v = { s with serial := s.serial.writeSc v } := rfl

theorem Serial.writeSc_start (p : Serial) {v : Byte} (h7 : v.getLsbD 7 = true) (h0 : v.getLsbD 0 = true) :
    p.writeSc v = .transferring p.sb 0 := (p.writeSc_eq v).trans (if_pos ⟨h7, h0⟩)

theorem Serial.writeSc_noTransfer (p : Serial) {v : Byte} (h : v.getLsbD 7 = false ∨ v.getLsbD 0 = false) :
    ((p.writeSc v).transfer && (p.writeSc v).internalClock) = false := by
  have hoff : ¬(v.getLsbD 7 = true ∧ v.getLsbD 0 = true) := by
    rintro ⟨h7, h0⟩
    rw [h7, h0, or_self] at h
    cases h
  rw [p.writeSc_eq, if_neg hoff, Bool.and_eq_false_iff]
  exact h

/-- Settles O54: a started transfer is `Serial.transferring` at its start, and any T-cycle of a transfer is
`serialTick_of_transfer`. -/
theorem serialTransferTakes4096Cycles : Obligations.SerialTransferTakes4096Cycles := by
  intro s v
  rw [s.busWrite_ff02]
  refine ⟨fun h7 h0 => ?_, s.serialTick_of_transfer, fun hoff n => ?_⟩
  · rw [s.serial.writeSc_start h7 h0]
    have hrun := s.serialTick_iterate s.serial.sb (show 4095 < 4096 by decide)
    have hend : State.serialTick^[4096] { s with serial := .transferring s.serial.sb 0 } = _ :=
      (Function.iterate_succ_apply' State.serialTick 4095 _).trans (congrArg State.serialTick hrun)
    rw [hend, s.serialTick_last]
    exact ⟨fun n hn => by rw [s.serialTick_iterate _ hn]; exact ⟨rfl, rfl⟩, rfl, rfl, rfl⟩
  · exact Function.iterate_fixed (State.serialTick_of_noTransfer _ (s.serial.writeSc_noTransfer hoff)) n

end Sys2Proof.Machine
end

section
/-! The advance of the devices (`spec/60_exceptions.md` R644): the PPU's dot in three parts (`spec/62_ppu.md` R666), the
position that it moves to (R660, R663 to R665), and a T-cycle as one of each device from the state before. -/

namespace Sys2Proof.Machine

variable {s t u : State}

/-! ## The dot in three parts -/

/-- The position moves one dot on. -/
def State.dotMove (s : State) : State :=
  if s.ppu.dot + 1 = Config.lineDots then s.nextLine else { s with ppu := { s.ppu with dot := s.ppu.dot + 1 } }

/-- A line is rendered where mode 3 begins. -/
def State.dotRender (s : State) : State :=
  if modeOf s.ppu.ly s.ppu.dot = .drawing ∧ s.ppu.mode ≠ .drawing then s.renderLine else s

/-- The mode becomes that of the position, and the STAT line follows. -/
def State.dotSettle (s : State) : State :=
  ({ s with ppu := { s.ppu with mode := modeOf s.ppu.ly s.ppu.dot } } : State).statLineUpdate

theorem State.dotRender_position (s : State) :
    s.dotRender.ppu.dot = s.ppu.dot ∧ s.dotRender.ppu.ly = s.ppu.ly ∧ s.dotRender.ppu.lcdc = s.ppu.lcdc := by
  unfold State.dotRender
  split <;> exact ⟨rfl, rfl, rfl⟩

theorem State.ppuDot_of_on (h : s.ppu.lcdOn = true) : s.ppuDot = s.dotMove.dotRender.dotSettle := by
  obtain ⟨hdot, hly, -⟩ := s.dotMove.dotRender_position
  rw [State.dotSettle, hdot, hly]
  exact if_pos h

theorem State.ppuDot_of_off (h : s.ppu.lcdOn = false) : s.ppuDot = s := if_neg (ne_true_of_eq_false h)

/-! ## The position (R663 to R666) -/

/-- The number of the dot in the frame: 154 lines of 456 dots. -/
def Ppu.frameDot (p : Ppu) : Nat := p.ly.toNat * 456 + p.dot

/-- `q` stands where `p` does one dot later, and beside the position holds what `Ppu.Inv` asks for. -/
structure DotAfter (p q : Ppu) : Prop where
  dot_lt : q.dot < 456
  ly_lt : q.ly.toNat < 154
  frameDot : q.frameDot = (p.frameDot + 1) % 70224
  lcdc : q.lcdc = p.lcdc
  line_length : q.line.length = 160

/-- The PPU at the start of the next line (R666, R669, R683). -/
def Ppu.nextLine (p : Ppu) : Ppu :=
  let ly : Byte := BitVec.ofNat 8 ((p.ly.toNat + 1) % Config.frameLines)
  { p with
    dot := 0
    ly := ly
    windowLine := if ly = 0 then 0 else p.windowLine
    frameReady := if ly = 144 then true else p.frameReady }

/-- Entry to line 144 is announced besides (R672). -/
theorem State.nextLine_eq (s : State) :
    s.nextLine =
      if s.ppu.nextLine.ly = 144 then (({ s with ppu := s.ppu.nextLine } : State).request 0).call .drawScreen
      else { s with ppu := s.ppu.nextLine } := rfl

theorem State.ppu_nextLine (s : State) : s.nextLine.ppu = s.ppu.nextLine := by
  rw [s.nextLine_eq]
  split <;> rfl

theorem DotAfter.dotMove (h : s.ppu.Inv) : DotAfter s.ppu s.dotMove.ppu := by
  have hdot := h.dot_lt
  have hly := h.ly_lt
  have hdots : Config.lineDots = 456 := rfl
  unfold State.dotMove
  by_cases hend : s.ppu.dot + 1 = Config.lineDots
  · have hnext : s.ppu.nextLine.ly.toNat = (s.ppu.ly.toNat + 1) % 154 := by
      rw [Ppu.nextLine, BitVec.toNat_ofNat, Config.frameLines]
      omega
    have hstart : s.ppu.nextLine.dot = 0 := rfl
    rw [if_pos hend, s.ppu_nextLine]
    refine ⟨Nat.zero_lt_succ 455, ?_, ?_, rfl, h.line_length⟩
    · exact hnext.trans_lt (Nat.mod_lt _ (by decide))
    · rw [Ppu.frameDot, Ppu.frameDot, hnext, hstart]
      omega
  · rw [if_neg hend]
    refine ⟨?_, hly, ?_, rfl, h.line_length⟩
    · dsimp only
      omega
    · dsimp only [Ppu.frameDot]
      omega

theorem State.length_lineShades (s : State) : s.lineShades.length = 160 := by
  rw [State.lineShades, List.length_map, List.length_range]
  rfl

theorem DotAfter.dotRender {p : Ppu} (h : DotAfter p s.ppu) : DotAfter p s.dotRender.ppu := by
  unfold State.dotRender
  split
  · exact ⟨h.dot_lt, h.ly_lt, h.frameDot, h.lcdc, s.length_lineShades⟩
  · exact h

theorem State.ppu_dotSettle (s : State) :
    s.dotSettle.ppu =
      { s.ppu with
        mode := modeOf s.ppu.ly s.ppu.dot
        statLine := ({ s.ppu with mode := modeOf s.ppu.ly s.ppu.dot } : Ppu).statCondition } := by
  obtain ⟨q, hq⟩ := ({ s with ppu := { s.ppu with mode := modeOf s.ppu.ly s.ppu.dot } } : State).statLineUpdate_spec
  rw [State.dotSettle, hq]

/-- One dot of a running PPU: the position moves one on, in the mode of the position (R665). -/
theorem DotAfter.ppuDot (h : s.ppu.Inv) (hon : s.ppu.lcdOn = true) :
    DotAfter s.ppu s.ppuDot.ppu ∧ s.ppuDot.ppu.mode = modeOf s.ppuDot.ppu.ly s.ppuDot.ppu.dot := by
  obtain ⟨hdot, hly, hframe, hlcdc, hline⟩ := (DotAfter.dotMove h).dotRender
  rw [State.ppuDot_of_on hon, State.ppu_dotSettle]
  exact ⟨⟨hdot, hly, hframe, hlcdc, hline⟩, rfl⟩

theorem Ppu.lcdOn_congr {p q : Ppu} (h : q.lcdc = p.lcdc) : q.lcdOn = p.lcdOn := by rw [Ppu.lcdOn, Ppu.lcdOn, h]

/-- A dot keeps the invariant of the PPU. -/
theorem Ppu.Inv.ppuDot (h : s.ppu.Inv) : s.ppuDot.ppu.Inv := by
  cases hon : s.ppu.lcdOn with
  | false => rwa [State.ppuDot_of_off hon]
  | true =>
    obtain ⟨hafter, hmode⟩ := DotAfter.ppuDot h hon
    have hon' : s.ppuDot.ppu.lcdOn = true := (Ppu.lcdOn_congr hafter.lcdc).trans hon
    exact ⟨hafter.dot_lt, hafter.ly_lt, fun _ => hmode, fun hoff => absurd (hon'.symm.trans hoff) (by decide),
      hafter.line_length⟩

/-! ## What a dot depends on -/

/-- The PPU after a rendered line (R683). -/
def Ppu.rendered (p : Ppu) (out : List Shade) : Ppu :=
  { p with line := out, windowLine := if p.windowDrawn then p.windowLine + 1 else p.windowLine }

theorem State.renderLine_eq (s : State) :
    s.renderLine = { s.call (.drawScanLine s.ppu.ly s.lineShades) with ppu := s.ppu.rendered s.lineShades } := rfl

/-- The shades of a line come of the PPU and the memory. -/
theorem State.lineShades_congr (hp : u.ppu = t.ppu) (hm : u.mem = t.mem) : u.lineShades = t.lineShades := by
  cases u
  cases t
  cases hp
  cases hm
  rfl

/-- `f` writes the PPU, raises requests and adds display calls, all three by what the PPU and the memory alone are. -/
def DotEffect (f : State → State) : Prop :=
  ∀ s : State, ∃ p q l, ∀ u : State, u.ppu = s.ppu → u.mem = s.mem →
    f u =
      { u with
        ppu := p
        irq := { u.irq with req := u.irq.req ||| q }
        info := { u.info with calls := u.info.calls ++ l } }

namespace DotEffect

variable {f g : State → State}

/-- Only the PPU is written, by what the PPU is. -/
theorem of_ppu {w : Ppu → Ppu} (h : ∀ u, f u = { u with ppu := w u.ppu }) : DotEffect f :=
  fun s => ⟨w s.ppu, 0#5, [], fun u hp _ => by rw [h, hp, BitVec.or_zero, List.append_nil]⟩

theorem comp (hg : DotEffect g) (hf : DotEffect f) : DotEffect (fun u => g (f u)) := by
  intro s
  obtain ⟨p, q, l, hfu⟩ := hf s
  obtain ⟨p', q', l', hgu⟩ := hg (f s)
  refine ⟨p', q ||| q', l ++ l', fun u hp hm => ?_⟩
  have hs := hfu s rfl rfl
  refine (hgu (f u) (by rw [hfu u hp hm, hs]) (by rw [hfu u hp hm, hs, hm])).trans ?_
  rw [hfu u hp hm]
  simp only [BitVec.or_assoc, List.append_assoc]

theorem ite {c : Ppu → Prop} [DecidablePred c] (hf : DotEffect f) (hg : DotEffect g) :
    DotEffect (fun u => if c u.ppu then f u else g u) := by
  intro s
  by_cases hc : c s.ppu
  · obtain ⟨p, q, l, h⟩ := hf s
    exact ⟨p, q, l, fun u hp hm => (if_pos (hp ▸ hc)).trans (h u hp hm)⟩
  · obtain ⟨p, q, l, h⟩ := hg s
    exact ⟨p, q, l, fun u hp hm => (if_neg (hp ▸ hc)).trans (h u hp hm)⟩

theorem id : DotEffect (fun u => u) := of_ppu (w := fun p => p) fun _ => rfl

theorem request (i : Nat) : DotEffect (fun u => u.request i) :=
  fun s => ⟨s.ppu, 1 <<< i, [], fun u hp _ => by rw [List.append_nil, ← hp]; rfl⟩

theorem call (c : DisplayCall) : DotEffect (fun u => u.call c) :=
  fun s => ⟨s.ppu, 0#5, [c], fun u hp _ => by rw [BitVec.or_zero, ← hp]; rfl⟩

theorem nextLine : DotEffect State.nextLine :=
  (ite (c := fun p => p.ly = 144) ((call .drawScreen).comp (request 0)) id).comp
    (of_ppu (w := Ppu.nextLine) fun _ => rfl)

theorem dotMove : DotEffect State.dotMove :=
  ite (c := fun p => p.dot + 1 = Config.lineDots) nextLine
    (of_ppu (w := fun p => { p with dot := p.dot + 1 }) fun _ => rfl)

theorem renderLine : DotEffect State.renderLine := fun s =>
  ⟨s.renderLine.ppu, 0#5, [.drawScanLine s.ppu.ly s.lineShades], fun u hp hm => by
    rw [u.renderLine_eq, s.renderLine_eq, State.lineShades_congr hp hm, hp, BitVec.or_zero]
    rfl⟩

theorem dotRender : DotEffect State.dotRender :=
  ite (c := fun p => modeOf p.ly p.dot = .drawing ∧ p.mode ≠ .drawing) renderLine id

theorem statLineUpdate : DotEffect State.statLineUpdate := by
  intro s
  refine ⟨{ s.ppu with statLine := s.ppu.statCondition },
    if (s.ppu.statCondition && !s.ppu.statLine) = true then (1 : BitVec 5) <<< 1 else 0#5, [], fun u hp _ => ?_⟩
  rw [← hp, List.append_nil]
  unfold State.statLineUpdate
  dsimp only
  split
  · rfl
  · rw [BitVec.or_zero]

theorem dotSettle : DotEffect State.dotSettle :=
  statLineUpdate.comp (of_ppu (w := fun p => { p with mode := modeOf p.ly p.dot }) fun _ => rfl)

theorem ppuDot : DotEffect State.ppuDot := by
  have h := ite (c := fun p => p.lcdOn = true) (dotSettle.comp (dotRender.comp dotMove)) id
  refine fun s => (h s).imp fun p => Exists.imp fun q => Exists.imp fun l hu u hp hm => ?_
  rw [← hu u hp hm]
  cases hon : u.ppu.lcdOn with
  | true => exact (State.ppuDot_of_on hon).trans (if_pos hon).symm
  | false => exact (State.ppuDot_of_off hon).trans (if_neg (ne_true_of_eq_false hon)).symm

end DotEffect

/-! ## What a T-cycle of the other devices depends on -/

/-- A T-cycle of the serial port depends on the port alone. -/
theorem State.serialTick_effect (s : State) :
    ∃ p q, ∀ u : State, u.serial = s.serial →
      u.serialTick = { u with serial := p, irq := { u.irq with req := u.irq.req ||| q } } := by
  refine ⟨s.serialTick.serial, if (s.serial.transfer && s.serial.internalClock) = true ∧ s.serial.clock + 1 = 512
    ∧ s.serial.bits + 1 = 8 then (1 : BitVec 5) <<< 3 else 0#5, fun u hu => ?_⟩
  cases hon : s.serial.transfer && s.serial.internalClock with
  | false =>
    rw [s.serialTick_of_noTransfer hon, u.serialTick_of_noTransfer (hu ▸ hon), ← hu]
    simp
  | true =>
    unfold State.serialTick State.request
    by_cases hend : s.serial.clock + 1 = 512
    · by_cases hlast : s.serial.bits + 1 = 8
      · simp only [hu, hon, hend, hlast, if_true, and_self]
      · simp only [hu, hon, hend, hlast, if_true, if_false, and_false, BitVec.or_zero]
    · simp only [hu, hon, hend, if_true, if_false, false_and, and_false, BitVec.or_zero]

/-- A T-cycle of the timer only raises requests. -/
theorem State.req_timerTick (s : State) : ∃ q, s.timerTick.irq.req = s.irq.req ||| q := by
  rw [s.timerTick_eq, State.timerWritten]
  dsimp only
  split
  · exact ⟨_, rfl⟩
  · exact ⟨0#5, BitVec.or_zero.symm⟩

/-- Requests raised one after the other are those raised by each. -/
theorem or_of_raised (r a b c : BitVec 5) : r ||| a ||| b ||| c = r ||| a ||| (r ||| b) ||| (r ||| c) := by
  apply BitVec.eq_of_getLsbD_eq
  intro i _
  simp only [BitVec.getLsbD_or]
  cases r.getLsbD i <;> simp

/-- One T-cycle is one of each device, as from the state before (R644). -/
theorem State.deviceTick_parts (s : State) :
    s.deviceTick.serial = s.serialTick.serial ∧ s.deviceTick.ppu = s.ppuDot.ppu
      ∧ s.deviceTick.info.calls = s.ppuDot.info.calls
      ∧ s.deviceTick.irq.req = s.timerTick.irq.req ||| s.serialTick.irq.req ||| s.ppuDot.irq.req := by
  obtain ⟨t, q, htimer, -⟩ := s.timerTick_spec
  obtain ⟨a, ha⟩ := s.req_timerTick
  obtain ⟨p, b, hserial⟩ := s.serialTick_effect
  obtain ⟨w, c, l, hdot⟩ := DotEffect.ppuDot s
  have hreq : q = s.irq.req ||| a := by rw [← ha, htimer]
  have hserial' := hserial s.timerTick (by rw [htimer])
  have hdot' := hdot s.timerTick.serialTick.dmaTick (by rw [State.dmaTick_spec, hserial', htimer])
    (by rw [State.dmaTick_spec, hserial', htimer])
  rw [State.deviceTick, hdot', State.dmaTick_spec, hserial', hserial s rfl, hdot s rfl rfl, htimer, hreq]
  refine ⟨rfl, rfl, rfl, ?_⟩
  exact or_of_raised s.irq.req a b c

theorem State.deviceTick_keeps (s : State) : AdvanceKeeps s s.deviceTick :=
  ((s.timerTick_keeps.trans s.timerTick.serialTick_keeps).trans s.timerTick.serialTick.dmaTick_keeps).trans
    (State.ppuDot_keeps _)

theorem advanceDevices_keeps (n : Nat) (s : State) : AdvanceKeeps s (advanceDevices n s) := by
  induction n generalizing s with
  | zero => exact AdvanceKeeps.refl s
  | succ n ih => exact s.deviceTick_keeps.trans (ih s.deviceTick)

/-! ## Many T-cycles -/

theorem ppu_advanceDevices_of_off (n : Nat) (s : State) (h : s.ppu.lcdOn = false) :
    (advanceDevices n s).ppu = s.ppu := by
  induction n generalizing s with
  | zero => rfl
  | succ n ih =>
    have hkept : s.deviceTick.ppu = s.ppu := by rw [s.deviceTick_parts.2.1, State.ppuDot_of_off h]
    rw [advanceDevices, ih _ (by rw [hkept, h]), hkept]

/-- The PPU's invariant is kept, and with the LCD on each T-cycle is one dot. -/
theorem frameDot_advanceDevices (n : Nat) (s : State) (h : s.ppu.Inv) (hon : s.ppu.lcdOn = true) :
    (advanceDevices n s).ppu.Inv ∧ (advanceDevices n s).ppu.lcdOn = true
      ∧ (advanceDevices n s).ppu.frameDot = (s.ppu.frameDot + n) % 70224 := by
  induction n generalizing s with
  | zero =>
    have hdot := h.dot_lt
    have hly := h.ly_lt
    have hlt : s.ppu.frameDot < 70224 := by
      rw [Ppu.frameDot]
      omega
    exact ⟨h, hon, by rw [advanceDevices, Nat.add_zero, Nat.mod_eq_of_lt hlt]⟩
  | succ n ih =>
    obtain ⟨hafter, -⟩ := DotAfter.ppuDot h hon
    obtain ⟨-, hppu, -⟩ := s.deviceTick_parts
    have hon' : s.deviceTick.ppu.lcdOn = true := by rw [hppu, Ppu.lcdOn_congr hafter.lcdc, hon]
    obtain ⟨hinv, hlcd, hframe⟩ := ih s.deviceTick (by rw [hppu]; exact h.ppuDot) hon'
    refine ⟨hinv, hlcd, hframe.trans ?_⟩
    rw [hppu, hafter.frameDot, Nat.mod_add_mod, Nat.add_assoc, Nat.add_comm 1 n]

/-- The mode of a position in the ranges of R665. -/
theorem modeOf_eq (ly : Byte) (dot : Nat) :
    modeOf ly dot =
      if 144 ≤ ly.toNat then .vBlank else if dot ≤ 79 then .oamScan else if dot ≤ 251 then .drawing else .hBlank := by
  simp only [modeOf, Nat.lt_succ_iff]

/-- Settles O50: the position by `frameDot_advanceDevices`, the frame by `advanceDevices_keeps`, a T-cycle by
`deviceTick_parts`. -/
theorem frameTiming : Obligations.FrameTiming := by
  refine ⟨fun n s hinv => ⟨fun hon => ?_, ppu_advanceDevices_of_off n s⟩, fun n s u hu => hu ▸ advanceDevices_keeps n s,
    fun _ _ => ⟨rfl, rfl⟩, ?_⟩
  · obtain ⟨hinv', hon', hframe⟩ := frameDot_advanceDevices n s hinv hon
    rw [Ppu.frameDot, Ppu.frameDot] at hframe
    exact ⟨hframe, hinv'.dot_lt, hinv'.ly_lt, (hinv'.mode_eq hon').trans (modeOf_eq _ _)⟩
  · rintro s _ rfl
    exact ⟨s.timer_deviceTick, s.deviceTick_parts⟩

end Sys2Proof.Machine
end

section
/-! The invariant outside the CPU (`spec/10_state.md` R46 to R50, `spec/62_ppu.md` R663 to R670,
`spec/21_cartridge_mbc.md` R206, R209, R212): every bus write and every T-cycle of the devices keeps it, so every step
does (`step_reaches`). -/

namespace Sys2Proof.Machine

variable {s t : State}

/-- The part of `State.Inv` that is not about the CPU. -/
structure State.MachineInv (s : State) : Prop where
  mem_wf : s.mem.wf = true
  timer_signal : s.timer.signal = s.timer.sig
  serial_bits : s.serial.bits < 8
  serial_clock : s.serial.clock < 512
  dma_remaining : s.dma.remaining ≤ 640
  ppu : s.ppu.Inv
  mbc : s.cart.mbc.Inv
  ram_size : s.cart.ramSize ≤ 131072

/-- The part of `State.Inv` that is about the CPU (`spec/60_exceptions.md` R642, `spec/45_system.md` R508). -/
structure Cpu.Inv (c : Cpu) : Prop where
  ime_delay : c.ime = true → c.eiDelay = 0
  halt_bug : c.haltBug = true → c.mode = .running

theorem State.inv_iff (s : State) : s.Inv ↔ s.MachineInv ∧ s.cpu.Inv :=
  ⟨fun h => ⟨⟨h.mem_wf, h.timer_signal, h.serial_bits, h.serial_clock, h.dma_remaining, h.ppu, h.mbc, h.ram_size⟩,
      h.ime_delay, h.halt_bug⟩,
    fun ⟨h, hc⟩ => ⟨h.mem_wf, hc.ime_delay, hc.halt_bug, h.timer_signal, h.serial_bits, h.serial_clock,
      h.dma_remaining, h.ppu, h.mbc, h.ram_size⟩⟩

/-! ## The registers of the devices -/

/-- R670, R671: turning the LCD off or on puts the PPU at the start of line 0. -/
theorem Ppu.Inv.writeLcdc {p : Ppu} (h : p.Inv) (v : Byte) : (p.writeLcdc v).Inv := by
  have clash {b : Bool} {q : Prop} (h1 : v.getLsbD 7 = b) (h2 : v.getLsbD 7 = !b) : q :=
    absurd (h1.symm.trans h2) (by cases b <;> decide)
  unfold Ppu.writeLcdc
  cases hon : p.lcdOn <;> cases hv : v.getLsbD 7
  · exact ⟨h.dot_lt, h.ly_lt, clash hv, fun _ => h.off hon, h.line_length⟩
  · exact ⟨Nat.zero_lt_succ 455, Nat.zero_lt_succ 153, fun _ => rfl, clash hv, h.line_length⟩
  · exact ⟨Nat.zero_lt_succ 455, Nat.zero_lt_succ 153, clash hv, fun _ => ⟨rfl, rfl, rfl, rfl⟩, h.line_length⟩
  · exact ⟨h.dot_lt, h.ly_lt, fun _ => h.mode_eq hon, clash hv, h.line_length⟩

theorem bankField_ne_zero {w : Nat} (hw : (1 : BitVec w) ≠ 0) (x : BitVec w) : (if x = 0 then 1 else x) ≠ 0 := by
  split
  · exact hw
  · assumption

theorem Mbc1.bank1_write {m : Mbc1} (h : m.bank1 ≠ 0) (a : Addr) (v : Byte) : (m.write a v).bank1 ≠ 0 := by
  unfold Mbc1.write
  split
  · exact h
  · split
    · exact bankField_ne_zero (by decide) _
    · split <;> exact h

theorem Mbc2.romBank_write {m : Mbc2} (h : m.romBank ≠ 0) (a : Addr) (v : Byte) : (m.write a v).romBank ≠ 0 := by
  unfold Mbc2.write
  split
  · split
    · exact bankField_ne_zero (by decide) _
    · exact h
  · exact h

theorem Mbc3.romBank_write {m : Mbc3} (h : m.romBank ≠ 0) (rtc : Bool) (a : Addr) (v : Byte) :
    (m.write rtc a v).romBank ≠ 0 := by
  unfold Mbc3.write
  split
  · exact h
  · split
    · exact bankField_ne_zero (by decide) _
    · split <;> exact h

/-- R206, R209, R212: a write of 0 to such a bank register leaves 1 in it. -/
theorem Mbc.Inv.mbcWrite {c : Cart} (h : c.mbc.Inv) (a : Addr) (v : Byte) : (c.mbcWrite a v).mbc.Inv := by
  unfold Cart.mbcWrite
  cases hm : c.mbc <;> rw [hm] at h
  case mbc1 m => exact Mbc1.bank1_write h a v
  case mbc2 m => exact Mbc2.romBank_write h a v
  case mbc3 m => exact Mbc3.romBank_write h c.rtc a v
  all_goals trivial

theorem Mbc.Inv.rtcWrite {c : Cart} (h : c.mbc.Inv) (r : RtcReg) (v : Byte) : (c.rtcWrite r v).mbc.Inv := by
  unfold Cart.rtcWrite
  cases hm : c.mbc <;> rw [hm] at h <;> exact h

/-! ## Bus writes -/

namespace State.MachineInv

theorem setByte (h : s.MachineInv) (p : Nat) (v : Byte) : (s.setByte p v).MachineInv :=
  { h with mem_wf := State.wf_setByte p v h.mem_wf }

/-- The clock edge leaves the detector at its output (R624). -/
theorem timerEdge (h : s.MachineInv) (c : BitVec 16) (tac : BitVec 3) :
    ({ s with timer := { s.timer with counter := c, tac := tac } } : State).timerEdge.MachineInv := by
  obtain ⟨t, q, hedge, hcounter, htac, -, hsig⟩ :=
    ({ s with timer := { s.timer with counter := c, tac := tac } } : State).timerEdge_spec
  rw [hedge]
  refine { h with timer_signal := ?_ }
  rw [hsig, Timer.sig, Timer.sig, hcounter, htac]

theorem writeSc (h : s.MachineInv) (v : Byte) : ({ s with serial := s.serial.writeSc v } : State).MachineInv := by
  rw [Serial.writeSc_eq]
  split
  · exact { h with serial_bits := Nat.zero_lt_succ 7, serial_clock := Nat.zero_lt_succ 511 }
  · exact { h with }

theorem startDma (h : s.MachineInv) (v : Byte) : (s.startDma v).MachineInv := by
  obtain ⟨m, hm, hwf⟩ := s.startDma_spec v
  rw [hm]
  exact { h with mem_wf := (hwf h.mem_wf).1, dma_remaining := le_rfl }

theorem ioWrite (h : s.MachineInv) (r : IoReg) (v : Byte) : (s.ioWrite r v).MachineInv := by
  cases r with
  | sc => exact h.writeSc v
  | div => exact h.timerEdge 0 s.timer.tac
  | tac => exact h.timerEdge s.timer.counter (v.setWidth 3)
  | lcdc => exact { h with ppu := h.ppu.writeLcdc v }
  | dma => exact h.startDma v
  | p1 | sb | tima | tma | iflag | audio | ly | unmapped => exact { h with }
  | stat | scy | scx | lyc | bgp | obp0 | obp1 | wy | wx => exact { h with ppu := { h.ppu with } }

theorem cartRamWrite (h : s.MachineInv) (a : Addr) (v : Byte) : (s.cartRamWrite a v).MachineInv := by
  unfold State.cartRamWrite
  split
  · exact h
  · exact h.setByte _ v
  · exact h.setByte _ _
  · exact { h with mbc := h.mbc.rtcWrite _ v }

theorem busWrite (h : s.MachineInv) (a : Addr) (v : Byte) : (s.busWrite a v).MachineInv := by
  unfold State.busWrite
  cases regionOf a with
  | rom => exact { h with mbc := h.mbc.mbcWrite a v }
  | vram | oam =>
    dsimp only
    split
    · exact h
    · exact h.setByte _ v
  | cartRam => exact h.cartRamWrite a v
  | wram | echo | hram => exact h.setByte _ v
  | unusable => exact h
  | io => exact h.ioWrite _ v
  | ie => exact { h with }

/-! ## The devices' advance -/

theorem deviceTick (h : s.MachineInv) : s.deviceTick.MachineInv := by
  obtain ⟨t, q, htimer, -, -, -, hsig⟩ := s.timerTick_spec
  obtain ⟨p, q', hserial, hcounters⟩ := s.timerTick.serialTick_spec
  obtain ⟨w, q'', l, hdot⟩ := s.timerTick.serialTick.dmaTick.ppuDot_spec
  have hppu := h.ppu.ppuDot
  obtain ⟨-, hpart, -⟩ := s.deviceTick_parts
  rw [← hpart] at hppu
  rw [State.deviceTick, hdot, State.dmaTick_spec, hserial, htimer] at hppu ⊢
  rw [htimer] at hcounters
  obtain ⟨hbits, hclock⟩ := hcounters h.serial_bits h.serial_clock
  refine { h with
    timer_signal := hsig, serial_bits := hbits, serial_clock := hclock, dma_remaining := ?_, ppu := hppu }
  have hdma := h.dma_remaining
  dsimp only
  split <;> omega

theorem advanceDevices (h : s.MachineInv) (n : Nat) : (advanceDevices n s).MachineInv := by
  induction n generalizing s with
  | zero => exact h
  | succ n ih => exact ih h.deviceTick

end State.MachineInv

theorem Reaches.machineInv (h : Reaches s t) (hs : s.MachineInv) : t.MachineInv := by
  induction h with
  | refl => exact hs
  | control _ c q j f d i ih => exact { ih with }
  | busWrite _ a v ih => exact ih.busWrite a v
  | advance _ n ih => exact ih.advanceDevices n

end Sys2Proof.Machine
end

section
/-! How an instruction ends (`spec/60_exceptions.md` R600, R601), said once for every instruction by its operand form:
it completes at its cost without a fault, or, where it is illegal or OAM DMA runs, with one. What it leaves of the CPU's
control state, and with it the invariant of the step (R640, R642). -/

namespace Sys2Proof.Machine

variable {s t u : State} {n : Nat} {P : Prop}

/-! ## Updates that keep the control state -/

/-- The control state of the CPU, the fault and the cost so far are unchanged. -/
structure Steady (s t : State) : Prop where
  control : ControlKept s t
  fault : t.fault = s.fault
  cycles : t.info.cycles = s.info.cycles

namespace Steady

theorem refl (s : State) : Steady s s := ⟨⟨rfl, rfl, rfl, rfl⟩, rfl, rfl⟩

theorem setReg (h : Steady s t) (r : Reg8) (v : Byte) : Steady s (t.setReg r v) := by cases r <;> exact { h with }

theorem setFlags (h : Steady s t) (f : Flags) : Steady s (t.setFlags f) := { h with }

theorem setSp (h : Steady s t) (v : Addr) : Steady s (t.setSp v) := { h with }

theorem setPc (h : Steady s t) (v : Addr) : Steady s (t.setPc v) := { h with }

theorem setPair (h : Steady s t) (p : Rp) (v : Addr) : Steady s (t.setPair p v) := by cases p <;> exact { h with }

theorem setPair2 (h : Steady s t) (p : Rp2) (v : Addr) : Steady s (t.setPair2 p v) := by cases p <;> exact { h with }

theorem withDraws (h : Steady s t) (d : Nat) : Steady s { t with draws := d } := { h with }

theorem memRead (h : Steady s t) (a : Addr) : Steady s (t.memRead a).2 := by
  rw [State.memRead_snd]
  exact h.withDraws _

theorem busWrite (h : Steady s t) (a : Addr) (v : Byte) : Steady s (t.busWrite a v) where
  control := by
    rw [ControlKept, State.cpu_busWrite]
    exact h.control
  fault := (t.fault_busWrite a v).trans h.fault
  cycles := (t.cycles_busWrite a v).trans h.cycles

theorem pop16 (h : Steady s t) : Steady s t.pop16.2 := by
  rw [State.pop16_spec]
  exact (h.withDraws _).setSp _

end Steady

/-! ## Stores -/

/-- The outcome of the stores of an instruction: a fault only while OAM DMA runs (R120). -/
inductive Stored (s : State) : Except FaultRaised State → Prop
  | ok {t : State} (h : Steady s t) : Stored s (.ok t)
  | error {e : FaultRaised} (h : 0 < s.dma.remaining) : Stored s (.error e)

namespace Stored

theorem of_held {e : FaultRaised} {a : Addr} (h : s.dmaHolds a = true) : Stored s (.error e) :=
  .error ((s.dmaHolds_iff a).mp h).1

theorem memWrite (h : Steady s t) (hdma : t.dma = s.dma) (op : Byte) (a : Addr) (v : Byte) :
    Stored s (t.memWrite op a v) := by
  cases hheld : t.dmaHolds a with
  | true =>
    rw [t.memWrite_error op a v hheld]
    exact .of_held ((State.dmaHolds_congr hdma a).symm.trans hheld)
  | false =>
    rw [t.memWrite_ok op a v hheld]
    exact .ok (h.busWrite a v)

theorem push16 (s : State) (op : Byte) (v : Addr) : Stored s (s.push16 op v) := by
  cases h1 : s.dmaHolds (s.cpu.sp - 1) with
  | true =>
    rw [s.push16_error op v h1]
    exact .of_held h1
  | false =>
    cases h2 : s.dmaHolds (s.cpu.sp - 2) with
    | true =>
      rw [s.push16_error_low op v h1 h2]
      exact .of_held h2
    | false =>
      rw [s.push16_ok op v h1 h2]
      exact .ok ((((Steady.refl s).busWrite _ _).busWrite _ _).setSp _)

theorem andThen {r : Except FaultRaised State} {f : State → State} (h : Stored s r)
    (hf : ∀ u, Steady s u → Steady s (f u)) : Stored s (andThen r f) := by
  cases h with
  | ok hu => exact .ok (hf _ hu)
  | error hdma => exact .error hdma

end Stored

/-! ## The end of an instruction -/

/-- The CPU as the fetch leaves it in a state with the invariant: it runs, and the halt bug is spent (R509). -/
structure Cpu.Ready (c : Cpu) : Prop where
  mode : c.mode = .running
  halt_bug : c.haltBug = false
  ime_delay : c.ime = true → c.eiDelay = 0

theorem Cpu.Ready.inv (h : s.cpu.Ready) (hkept : ControlKept s t) : t.cpu.Inv := by
  obtain ⟨hime, hdelay, hmode, -⟩ := hkept
  exact ⟨fun hi => hdelay.trans (h.ime_delay (hime.symm.trans hi)), fun _ => hmode.trans h.mode⟩

/-- How the outcome of an instruction ends from `s`; `illegal` is that the instruction is one of the eleven. -/
inductive Ends (illegal : Prop) (s : State) : Out → Prop
  | completes {t : State} (hcpu : s.cpu.Ready → t.cpu.Inv) (hfault : t.fault = s.fault)
      (hcost : s.info.cycles + 4 ≤ t.info.cycles) : Ends illegal s (.next t)
  | faults {t : State} (h : illegal ∨ 0 < s.dma.remaining) (hfault : t.fault ≠ none) : Ends illegal s (.next t)

namespace Ends

theorem done (h : Steady s t) (hn : 4 ≤ n := by decide) : Ends P s (done n t) :=
  .completes (fun hs => hs.inv h.control) h.fault (h.cycles ▸ Nat.add_le_add_left hn t.info.cycles)

/-- An instruction that writes the CPU alone. -/
theorem withCpu {c : Cpu} (hc : s.cpu.Ready → c.Inv) : Ends P s (Machine.done 4 { s with cpu := c }) :=
  .completes hc rfl le_rfl

theorem finish {r : Except FaultRaised State} (h : Stored s r) (hn : 4 ≤ n := by decide) :
    Ends P s (finish s n r) := by
  cases h with
  | ok hu => exact .done hu hn
  | error hdma => exact .faults (.inr hdma) (Option.some_ne_none _)

/-- What the fetch of a byte leaves is as good a start as the state before it. -/
theorem of_fetch8 {o : Out} (h : Ends P s.fetch8.2 o) : Ends P s o := by
  rw [s.fetch8_spec] at h
  cases h with
  | completes hcpu hfault hcost => exact .completes (fun hs => hcpu { hs with }) hfault hcost
  | faults h hfault => exact .faults h hfault

variable (s)

theorem loadReg (r : Reg8) (a : Addr) (hn : 4 ≤ n := by decide) : Ends P s (loadReg r a n s) :=
  done (((Steady.refl s).memRead a).setReg _ _) hn

theorem storeByte (op : Byte) (a : Addr) (v : Byte) (hn : 4 ≤ n := by decide) : Ends P s (storeByte op a v n s) :=
  finish (.memWrite (.refl s) rfl op a v) hn

theorem loadStepHL (delta : Addr) : Ends P s (loadStepHL delta s) :=
  done ((((Steady.refl s).memRead _).setReg _ _).setPair _ _)

theorem storeStepHL (op : Byte) (delta : Addr) : Ends P s (storeStepHL op delta s) :=
  finish ((Stored.memWrite (.refl s) rfl op _ _).andThen fun _ hu => hu.setPair _ _)

/-- The second write is at the next address, from the state after the first. -/
theorem storeSp (op : Byte) (a : Addr) : Ends P s (storeSp op a s) := by
  cases h1 : s.dmaHolds a with
  | true =>
    rw [Machine.storeSp, s.memWrite_error _ _ _ h1]
    exact finish (.of_held h1)
  | false =>
    cases h2 : s.dmaHolds (a + 1) with
    | true =>
      rw [Machine.storeSp, s.memWrite_ok _ _ _ h1]
      dsimp only
      rw [State.memWrite_error _ _ _ _ (s.dmaHolds_next_busWrite _ h2)]
      exact finish (.of_held h2)
    | false =>
      rw [storeSp_ok s op a h1 h2]
      exact done (((Steady.refl s).busWrite _ _).busWrite _ _)

theorem pushPair (op : Byte) (p : Rp2) : Ends P s (pushPair op p s) := finish (.push16 s op _)

theorem popPair (p : Rp2) : Ends P s (popPair p s) := done ((Steady.refl s).pop16.setPair2 _ _)

theorem aluReg (op : AluOp) (r : Reg8) : Ends P s (aluReg op r s) := done (((Steady.refl s).setReg _ _).setFlags _)

theorem aluMem (op : AluOp) : Ends P s (aluMem op s) :=
  done ((((Steady.refl s).memRead _).setReg _ _).setFlags _)

theorem aluImm (op : AluOp) (v : Byte) : Ends P s (aluImm op v s) := done (((Steady.refl s).setReg _ _).setFlags _)

theorem updReg (f : Byte → Flags → AluResult) (r : Reg8) (hn : 4 ≤ n := by decide) : Ends P s (updReg f r n s) :=
  done (((Steady.refl s).setReg _ _).setFlags _) hn

theorem updMem (op : Byte) (f : Byte → Flags → AluResult) (hn : 4 ≤ n := by decide) : Ends P s (updMem op f n s) :=
  finish ((Stored.memWrite ((Steady.refl s).memRead _) (s.dma_memRead _) op _ _).andThen fun _ hu => hu.setFlags _) hn

theorem addPair (p : Rp) (delta : Addr) : Ends P s (addPair p delta s) := done ((Steady.refl s).setPair _ _)

theorem addHLPair (p : Rp) : Ends P s (addHLPair p s) := done (((Steady.refl s).setPair _ _).setFlags _)

theorem bitMem (b : Idx8) : Ends P s (bitMem b s) := done (((Steady.refl s).memRead _).setFlags _)

theorem mapReg (f : Byte → Byte) (r : Reg8) : Ends P s (mapReg f r s) := done ((Steady.refl s).setReg _ _)

theorem mapMem (op : Byte) (f : Byte → Byte) : Ends P s (mapMem op f s) :=
  finish (.memWrite ((Steady.refl s).memRead _) (s.dma_memRead _) op _ _)

theorem jumpTo (a : Addr) (hn : 4 ≤ n := by decide) : Ends P s (jumpTo a n s) := done ((Steady.refl s).setPc a) hn

theorem jumpIf (cnd : Cond) (a : Addr) {k : Nat} (hn : 4 ≤ n := by decide) (hk : 4 ≤ k := by decide) :
    Ends P s (jumpIf cnd a n k s) := by
  unfold Machine.jumpIf
  split
  · exact jumpTo s a hn
  · exact done (.refl s) hk

theorem callTo (op : Byte) (a : Addr) (hn : 4 ≤ n := by decide) : Ends P s (callTo op a n s) :=
  finish ((Stored.push16 s op _).andThen fun _ hu => hu.setPc a) hn

theorem callIf (op : Byte) (cnd : Cond) (a : Addr) : Ends P s (callIf op cnd a s) := by
  unfold Machine.callIf
  split
  · exact callTo s op a
  · exact done (.refl s)

theorem retFrom (hn : 4 ≤ n := by decide) : Ends P s (retFrom n s) := done ((Steady.refl s).pop16.setPc _) hn

theorem retIf (cnd : Cond) : Ends P s (retIf cnd s) := by
  unfold Machine.retIf
  split
  · exact retFrom s
  · exact done (.refl s)

/-- R266: the 0xCB page. -/
theorem cbPage (o : Byte) : Ends P s (cbPage o s) := by
  unfold Machine.cbPage
  dsimp only
  split
  · exact updReg s _ _
  · exact updMem s _ _
  · exact done ((Steady.refl s).setFlags _)
  · exact bitMem s _
  · exact mapReg s _ _
  · exact mapMem s _ _
  · exact mapReg s _ _
  · exact mapMem s _ _

end Ends

/-! ## The instructions, as the decoder selects them -/

/-- Every outcome of `i` ends as `Ends` says. -/
def ExecEnds (i : Instr) : Prop := ∀ s, Ends (IsIllegal i) s (exec i s)

namespace ExecEnds

theorem of_eq {i : Instr} {f : State → Out} (h : ∀ s, exec i s = f s) (hf : ∀ s, Ends (IsIllegal i) s (f s)) :
    ExecEnds i := fun s => (h s).symm ▸ hf s

theorem ldRR (dst src : Reg8) : ExecEnds (.ldRR dst src) :=
  .of_eq (exec_ldRR dst src) fun s => .done (.setReg (.refl s) _ _)
theorem ldRN (dst : Reg8) (n : Byte) : ExecEnds (.ldRN dst n) :=
  .of_eq (exec_ldRN dst n) fun s => .done (.setReg (.refl s) _ _)
theorem ldRHL (dst : Reg8) : ExecEnds (.ldRHL dst) := .of_eq (exec_ldRHL dst) fun s => .loadReg s _ _
theorem ldHLR (src : Reg8) : ExecEnds (.ldHLR src) := .of_eq (exec_ldHLR src) fun s => .storeByte s _ _ _
theorem ldRpN (p : Rp) (n : Addr) : ExecEnds (.ldRpN p n) :=
  .of_eq (exec_ldRpN p n) fun s => .done (.setPair (.refl s) _ _)
theorem push (p : Rp2) : ExecEnds (.push p) := .of_eq (exec_push p) fun s => .pushPair s _ _
theorem pop (p : Rp2) : ExecEnds (.pop p) := .of_eq (exec_pop p) fun s => .popPair s _

theorem aluR (op : AluOp) (r : Reg8) : ExecEnds (.aluR op r) := .of_eq (exec_aluR op r) fun s => .aluReg s _ _
theorem aluHL (op : AluOp) : ExecEnds (.aluHL op) := .of_eq (exec_aluHL op) fun s => .aluMem s _
theorem aluN (op : AluOp) (n : Byte) : ExecEnds (.aluN op n) := .of_eq (exec_aluN op n) fun s => .aluImm s _ _
theorem incR (r : Reg8) : ExecEnds (.incR r) := .of_eq (exec_incR r) fun s => .updReg s _ _
theorem decR (r : Reg8) : ExecEnds (.decR r) := .of_eq (exec_decR r) fun s => .updReg s _ _
theorem incRp (p : Rp) : ExecEnds (.incRp p) := .of_eq (exec_incRp p) fun s => .addPair s _ _
theorem decRp (p : Rp) : ExecEnds (.decRp p) := .of_eq (exec_decRp p) fun s => .addPair s _ _
theorem addHLRp (p : Rp) : ExecEnds (.addHLRp p) := .of_eq (exec_addHLRp p) fun s => .addHLPair s _

theorem jpCc (cnd : Cond) (n : Addr) : ExecEnds (.jpCc cnd n) := .of_eq (exec_jpCc cnd n) fun s => .jumpIf s _ _
theorem jrCc (cnd : Cond) (e : Byte) : ExecEnds (.jrCc cnd e) := .of_eq (exec_jrCc cnd e) fun s => .jumpIf s _ _
theorem callCc (cnd : Cond) (n : Addr) : ExecEnds (.callCc cnd n) := .of_eq (exec_callCc cnd n) fun s => .callIf s _ _ _
theorem retCc (cnd : Cond) : ExecEnds (.retCc cnd) := .of_eq (exec_retCc cnd) fun s => .retIf s _
theorem rst (y : Idx8) : ExecEnds (.rst y) := .of_eq (exec_rst y) fun s => .callTo s _ _

/-- R502: an illegal opcode sets the fault. -/
theorem illegal (o : IllegalOp) : ExecEnds (.illegal o) :=
  .of_eq (exec_illegal o) fun _ => .faults (.inl ⟨o, rfl⟩) (Option.some_ne_none _)

/-- R266: the 0xCB page. -/
theorem decodeCb (o : Byte) : ExecEnds (decodeCb o) := .of_eq (exec_decodeCb o) fun s => .cbPage s o

/-- R501: the byte 0xCB, decoded alone, fetches its second byte in the same step. -/
theorem prefix_cb : ExecEnds .prefix_cb := fun s => .of_fetch8 (.cbPage s.fetch8.2 s.fetch8.1)

/-- R510: the halt bug is spent where `STOP` runs. -/
theorem stop (b : Byte) : ExecEnds (.stop b) := by
  refine .of_eq (f := fun s => done 4 { s.clearCounter with cpu := { s.clearCounter.cpu with mode := .stopped } })
    (fun _ => rfl) fun s => ?_
  rw [s.clearCounter_fallingEdge]
  exact .completes (fun h => ⟨h.ime_delay, fun hbug => absurd (h.halt_bug.symm.trans hbug) (by decide)⟩) rfl le_rfl

/-- R507, R508: `HALT` leaves the CPU halted, or running with the halt bug armed. -/
theorem halt : ExecEnds .halt := by
  refine .of_eq exec_halt_eq fun s => .withCpu fun h => ?_
  split
  · exact ⟨h.ime_delay, fun _ => h.mode⟩
  · exact ⟨h.ime_delay, fun hbug => absurd (h.halt_bug.symm.trans hbug) (by decide)⟩

/-- R506: `EI` arms the delay only where IME is 0. -/
theorem ei : ExecEnds .ei := by
  refine .of_eq exec_ei_eq fun s => .withCpu fun h => ?_
  split
  · rename_i hoff
    exact ⟨fun hon => absurd (hoff.1.symm.trans hon) (by decide), fun _ => h.mode⟩
  · exact ⟨h.ime_delay, fun _ => h.mode⟩

/-- R503. -/
theorem di : ExecEnds .di := fun s =>
  .withCpu (c := { s.cpu with ime := false, eiDelay := 0 }) fun h => ⟨fun _ => rfl, fun _ => h.mode⟩

/-- R479: `RETI` sets IME at once and clears the delay. -/
theorem reti : ExecEnds .reti := by
  refine .of_eq (f := fun s => done 16 s.returnFromInterrupt) (fun _ => rfl) fun s => ?_
  rw [s.returnFromInterrupt_spec]
  exact .completes (fun h => ⟨fun _ => rfl, fun _ => h.mode⟩) rfl (Nat.add_le_add_left (by decide) _)

/-- R265, x = 0. -/
theorem decodeX0 (o b1 : Byte) (n16 : Addr) : ExecEnds (decodeX0 o b1 n16) := by
  unfold Sys2Proof.decodeX0
  dsimp only
  split
  next =>
    split
    · exact fun s => .done (.refl s)
    · exact fun s => .storeSp s _ _
    · exact stop b1
    · exact fun s => .jumpTo s _
    · exact jrCc _ _
  next =>
    split
    · exact addHLRp _
    · exact ldRpN _ _
  next =>
    split
    · exact fun s => .storeByte s _ _ _
    · exact fun s => .loadReg s _ _
    · exact fun s => .storeByte s _ _ _
    · exact fun s => .loadReg s _ _
    · exact fun s => .storeStepHL s _ _
    · exact fun s => .loadStepHL s _
    · exact fun s => .storeStepHL s _ _
    · exact fun s => .loadStepHL s _
  next =>
    split
    · exact decRp _
    · exact incRp _
  next =>
    split
    · exact incR _
    · exact fun s => .updMem s _ _
  next =>
    split
    · exact decR _
    · exact fun s => .updMem s _ _
  next =>
    split
    · exact ldRN _ _
    · exact fun s => .storeByte s _ _ _
  next =>
    split
    · exact fun s => .updReg s _ _
    · exact fun s => .updReg s _ _
    · exact fun s => .updReg s _ _
    · exact fun s => .updReg s _ _
    · exact fun s => .updReg s _ _
    · exact fun s => .done (.setFlags (.setReg (.refl s) _ _) _)
    · exact fun s => .done (.setFlags (.refl s) _)
    · exact fun s => .done (.setFlags (.refl s) _)

/-- R265, x = 1. -/
theorem decodeX1 (o : Byte) : ExecEnds (decodeX1 o) := by
  unfold Sys2Proof.decodeX1
  split
  · exact ldRR _ _
  · exact ldRHL _
  · exact ldHLR _
  · exact halt

/-- R265, x = 2. -/
theorem decodeX2 (o : Byte) : ExecEnds (decodeX2 o) := by
  unfold Sys2Proof.decodeX2
  split
  · exact aluR _ _
  · exact aluHL _

/-- R265, x = 3. -/
theorem decodeX3 (o b1 : Byte) (n16 : Addr) : ExecEnds (decodeX3 o b1 n16) := by
  unfold Sys2Proof.decodeX3
  dsimp only
  split
  next =>
    split
    · exact fun s => .storeByte s _ _ _
    · exact fun s => .done (.setFlags (.setSp (.refl s) _) _)
    · exact fun s => .loadReg s _ _
    · exact fun s => .done (.setFlags (.setPair (.refl s) _ _) _)
    · exact retCc _
  next =>
    split
    · split
      · exact fun s => .retFrom s
      · exact reti
      · exact fun s => .jumpTo s _
      · exact fun s => .done (.setSp (.refl s) _)
    · exact pop _
  next =>
    split
    · exact fun s => .storeByte s _ _ _
    · exact fun s => .storeByte s _ _ _
    · exact fun s => .loadReg s _ _
    · exact fun s => .loadReg s _ _
    · exact jpCc _ _
  next =>
    split
    · exact fun s => .jumpTo s _
    · exact decodeCb _
    · exact illegal .xd3
    · exact illegal .xdb
    · exact illegal .xe3
    · exact illegal .xeb
    · exact di
    · exact ei
  next =>
    split
    · exact illegal .xe4
    · exact illegal .xec
    · exact illegal .xf4
    · exact illegal .xfc
    · exact callCc _ _
  next =>
    split
    · split
      · exact fun s => .callTo s _ _
      · exact illegal .xdd
      · exact illegal .xed
      · exact illegal .xfd
    · exact push _
  next => exact aluN _ _
  next => exact rst _

theorem decodeBytes (o b1 b2 : Byte) : ExecEnds (decodeBytes o b1 b2) := by
  unfold Sys2Proof.decodeBytes
  split
  · exact decodeX0 _ _ _
  · exact decodeX1 _
  · exact decodeX2 _
  · exact decodeX3 _ _ _

/-- Every instruction: `prefix_cb`, and those that the decoder reads from their own encoding. -/
theorem all (i : Instr) : ExecEnds i := by
  by_cases hi : i.WellFormed
  · obtain ⟨o, bs, hbytes⟩ : ∃ o bs, encode i = o :: bs :=
      List.exists_cons_of_length_pos (by rw [(encodedLength i hi).2]; exact instrLength_pos _)
    rw [← decodeBytes_of_encode hi hbytes]
    exact decodeBytes _ _ _
  · obtain rfl := not_not.mp hi
    exact prefix_cb

end ExecEnds

/-- Settles O13: an instruction that is not illegal ends with a fault only while OAM DMA runs. -/
theorem legalInstructionsCompleteOutsideDma : Obligations.LegalInstructionsCompleteOutsideDma := by
  intro i s hlegal hdma
  have h := ExecEnds.all i s
  generalize hexec : exec i s = o at h
  cases h with
  | completes _ hfault hcost => exact ⟨_, hexec, hfault, hcost⟩
  | faults h _ => exact absurd h (not_or_intro hlegal (by omega))

/-! ## The step always answers (R640) -/

theorem length_fetchMore (n : Nat) (s : State) : (fetchMore n s).1.length = n := by
  induction n generalizing s with
  | zero => rfl
  | succ n ih => exact congrArg Nat.succ (ih s.fetch8.2)

/-- The fetch reads as many bytes as the opcode asks for, so the decoder reads an instruction from them (R267). -/
theorem State.exists_decode_fetchInstr (s : State) : ∃ i, decode s.fetchInstr.1 = .ok i := by
  have hlen : instrLength s.fetchOpcode.1 ≤ s.fetchInstr.1.length := by
    have hpos := instrLength_pos s.fetchOpcode.1
    have hmore := length_fetchMore (instrLength s.fetchOpcode.1 - 1) s.fetchOpcode.2
    rw [State.fetchInstr, List.length_cons, hmore]
    omega
  obtain ⟨i, hdecode, -, -⟩ := exists_decode_of_le_length hlen
  exact ⟨i, hdecode⟩

theorem exists_exec_next (i : Instr) (s : State) : ∃ t, exec i s = .next t := by
  have h := ExecEnds.all i s
  generalize exec i s = o at h ⊢
  cases h <;> exact ⟨_, rfl⟩

/-- Settles O8: each branch of the step answers, the instruction by `exists_exec_next`. -/
theorem stepAlwaysAnswers : Obligations.StepAlwaysAnswers := by
  refine fun s => ⟨?_, fun h => step_of_idle (s.idle_iff.mpr h)⟩
  cases hidle : s.idle with
  | true => exact ⟨s, step_of_idle hidle⟩
  | false =>
    cases hmode : s.cpu.mode with
    | stopped => exact ⟨_, step_of_stopped hidle hmode⟩
    | halted => exact ⟨_, step_of_halted hidle hmode⟩
    | running =>
      cases hint : s.sampled.interruptTaken with
      | true => exact ⟨_, step_of_interruptTaken hidle hmode hint⟩
      | false =>
        obtain ⟨i, hdecode⟩ := s.sampled.exists_decode_fetchInstr
        obtain ⟨t, hexec⟩ := exists_exec_next i s.sampled.fetchInstr.2
        exact ⟨_, step_of_exec hidle hmode hint hdecode hexec⟩

/-! ## The step keeps the invariant -/

theorem fetchMore_snd (n : Nat) (s : State) :
    ∃ pc d, (fetchMore n s).2 = { s with cpu := { s.cpu with pc := pc }, draws := d } := by
  induction n generalizing s with
  | zero => exact ⟨s.cpu.pc, s.draws, rfl⟩
  | succ n ih =>
    obtain ⟨pc, d, h⟩ := ih s.fetch8.2
    rw [s.fetch8_spec] at h
    exact ⟨pc, d, by rw [fetchMore, s.fetch8_spec, h]; rfl⟩

theorem State.fetchOpcode_snd (s : State) :
    ∃ pc d, s.fetchOpcode.2 = { s.fetching with cpu := { s.cpu with pc := pc, haltBug := false }, draws := d } := by
  cases hbug : s.cpu.haltBug with
  | true =>
    refine ⟨s.cpu.pc, (s.fetching.memRead s.cpu.pc).2.draws, ?_⟩
    have hread : s.fetchOpcode.2 =
        { (s.fetching.memRead s.cpu.pc).2 with
          cpu := { (s.fetching.memRead s.cpu.pc).2.cpu with haltBug := false } } := congrArg Prod.snd (if_pos hbug)
    rw [hread, State.memRead_snd]
    rfl
  | false =>
    refine ⟨s.cpu.pc + 1, (s.fetching.memRead s.cpu.pc).2.draws, ?_⟩
    have hread : s.fetchOpcode = s.fetching.fetch8 := if_neg (ne_true_of_eq_false hbug)
    rw [hread, State.fetch8_spec, ← hbug]
    rfl

/-- The fetch moves PC, spends the halt bug (R509) and notes the opcode's address. -/
theorem State.fetchInstr_snd (s : State) :
    ∃ pc d, s.fetchInstr.2 =
      { s.fetching with cpu := { s.cpu with pc := pc, haltBug := false }, draws := d } := by
  obtain ⟨pc, d, hopcode⟩ := s.fetchOpcode_snd
  obtain ⟨pc', d', hmore⟩ := fetchMore_snd (instrLength s.fetchOpcode.1 - 1) s.fetchOpcode.2
  exact ⟨pc', d', by rw [State.fetchInstr, hmore, hopcode]⟩

/-- A CPU that runs is ready for its instruction once that is fetched. -/
theorem State.ready_fetchInstr (h : s.cpu.Inv) (hmode : s.cpu.mode = .running) : s.fetchInstr.2.cpu.Ready := by
  obtain ⟨pc, d, hfetch⟩ := s.fetchInstr_snd
  rw [hfetch]
  exact ⟨hmode, rfl, h.ime_delay⟩

theorem State.fault_fetchInstr (s : State) : s.fetchInstr.2.fault = s.fault := by
  obtain ⟨pc, d, hfetch⟩ := s.fetchInstr_snd
  rw [hfetch]
  rfl

/-- R642: the delay of `EI` ends with IME set and the delay at 0. -/
theorem Cpu.Inv.eiDelayUpdate (h : s.cpu.Inv) : s.eiDelayUpdate.cpu.Inv := by
  obtain ⟨i, d, he, hdelay⟩ := s.eiDelayUpdate_spec
  rw [he]
  exact ⟨hdelay h.ime_delay, h.halt_bug⟩

/-- The CPU of a dispatched interrupt has IME and the halt bug cleared (R613, R614). -/
theorem Cpu.inv_dispatched (s : State) : s.dispatched.cpu.Inv :=
  ⟨fun hime => absurd hime Bool.false_ne_true, fun hbug => absurd hbug Bool.false_ne_true⟩

/-- A CPU that waits has no halt bug armed, so it may wake. -/
theorem Cpu.Inv.withMode {c : Cpu} (h : c.Inv) (hwaits : c.mode ≠ .running) (m : CpuMode) :
    ({ c with mode := m } : Cpu).Inv :=
  ⟨h.ime_delay, fun hbug => absurd (h.halt_bug hbug) hwaits⟩

theorem cpu_advanceDevices (n : Nat) (s : State) : (advanceDevices n s).cpu = s.cpu := by
  obtain ⟨t, se, p, d, q, l, h⟩ := advanceDevices_spec n s
  rw [h]

/-- The end of an instruction, by how it ended. -/
theorem Cpu.inv_endInstr {s0 : State} {i : Instr} (h0 : s0.cpu.Inv) (hs : s.cpu.Ready) (hnone : s.fault = none)
    (hexec : exec i s = .next t) : (endInstr s0 t).cpu.Inv := by
  have h := ExecEnds.all i s
  rw [hexec] at h
  cases h with
  | completes hcpu hfault _ =>
    rw [endInstr_of_noFault (hfault.trans hnone), State.cpu_advance]
    exact (hcpu hs).eiDelayUpdate
  | faults _ hfault =>
    obtain ⟨r, hr⟩ := Option.ne_none_iff_exists'.mp hfault
    rw [endInstr_of_fault hr]
    exact h0

/-- Each branch of the step keeps the invariant of the CPU. -/
theorem Steps.cpu_inv (h : Steps s t) (hs : s.cpu.Inv) : t.cpu.Inv := by
  have hsampled : s.sampled.cpu.Inv := s.cpu_sampled ▸ hs
  cases h with
  | idle => exact hs
  | stopped _ hmode =>
    have hmode' : s.sampled.cpu.mode = .stopped := by rw [s.cpu_sampled, hmode]
    rw [State.stoppedStep_eq _ hmode']
    exact hsampled.withMode (hmode'.trans_ne (by decide)) _
  | halted _ hmode =>
    have hmode' : s.sampled.cpu.mode = .halted := by rw [s.cpu_sampled, hmode]
    rw [State.haltedStep_eq _ hmode', cpu_advanceDevices]
    exact hsampled.withMode (hmode'.trans_ne (by decide)) _
  | dispatch =>
    obtain hfree | ⟨e, herror⟩ := s.sampled.dispatchInterrupt_cases
    · rw [dispatchStep_of_ok (State.dispatchInterrupt_eq hfree), State.cpu_advance]
      exact Cpu.inv_dispatched _
    · rw [dispatchStep_of_error herror]
      exact hs
  | instr hidle hmode _ hexec =>
    refine Cpu.inv_endInstr hs (State.ready_fetchInstr hsampled (by rw [s.cpu_sampled, hmode])) ?_ hexec
    rw [State.fault_fetchInstr, s.fault_sampled, State.fault_of_not_idle hidle]

/-- Settles O7: the CPU by the branches of the step, the rest by `step_reaches`. -/
theorem stepKeepsInvariant : Obligations.StepKeepsInvariant := by
  intro s t hinv hstep
  obtain ⟨hmachine, hcpu⟩ := s.inv_iff.mp hinv
  exact t.inv_iff.mpr ⟨(step_reaches hstep).machineInv hmachine, (Steps.of_step hstep).cpu_inv hcpu⟩

end Sys2Proof.Machine
end

section
/-! Where the invariant of the machine begins: at construction (`spec/70_reset_and_hazards.md` R730) and at every
successful load (R731). -/

namespace Sys2Proof.Machine

/-- R53: IME is off and no halt bug is armed. -/
theorem Cpu.inv_reset : Cpu.reset.Inv :=
  ⟨fun hime => absurd hime Bool.false_ne_true, fun hbug => absurd hbug Bool.false_ne_true⟩

/-- R46: the detector's output is that of the timer's reset values. -/
theorem Timer.signal_reset : Timer.reset.signal = Timer.reset.sig := rfl

/-- R665: the LCD is on, at the start of line 0 in mode 2. -/
theorem Ppu.inv_reset : Ppu.reset.Inv where
  dot_lt := Nat.zero_lt_succ 455
  ly_lt := Nat.zero_lt_succ 153
  mode_eq _ := rfl
  off hoff := absurd hoff (by decide)
  line_length := List.length_replicate

/-- No bank register that cannot hold 0 powers on at 0 (`spec/10_state.md` R52). -/
theorem Variant.inv_powerOn (v : Variant) : v.powerOn.Inv := by
  cases v with
  | romOnly | mbc5 => trivial
  | mbc1 => exact (by decide : (1 : BitVec 5) ≠ 0)
  | mbc2 => exact (by decide : (1 : BitVec 4) ≠ 0)
  | mbc3 => exact (by decide : (1 : BitVec 7) ≠ 0)

/-- A load of any memory and cartridge that meet the invariant does. -/
theorem State.inv_loaded (s : State) {c : Cart} {m : Memory} (hwf : m.wf = true) (hmbc : c.mbc.Inv)
    (hram : c.ramSize ≤ 131072) : (s.loaded c m).Inv where
  mem_wf := hwf
  ime_delay := Cpu.inv_reset.ime_delay
  halt_bug := Cpu.inv_reset.halt_bug
  timer_signal := Timer.signal_reset
  serial_bits := Nat.zero_lt_succ 7
  serial_clock := Nat.zero_lt_succ 511
  dma_remaining := Nat.zero_le 640
  ppu := Ppu.inv_reset
  mbc := hmbc
  ram_size := hram

/-- Log entry 1: the machine after construction holds what a load leaves, but no cartridge and no memory. -/
theorem State.reset_eq_loaded : State.reset = State.reset.loaded (Cart.absent .noRomLoaded) [] := by
  have hjoypad : Joypad.reset = Joypad.reset.afterLoad := by decide
  exact congrArg (fun j => { State.reset with joypad := j }) hjoypad

/-- Settles O5: the reset values are those of a load, and without a cartridge the machine is idle. -/
theorem invariantHoldsAtReset : Obligations.InvariantHoldsAtReset := by
  have hinv : State.reset.Inv := by
    rw [State.reset_eq_loaded]
    exact State.reset.inv_loaded rfl trivial (Nat.zero_le 131072)
  have hcart : State.reset.cart.status ≠ .loaded := by decide
  exact ⟨hinv, rfl, rfl, step_of_idle (State.idle_of_not_loaded hcart)⟩

/-- Settles O6: the cartridge is `RomImage.parse_ok` and the memory `loadedMemory_spec`. -/
theorem loadEstablishesInvariant : Obligations.LoadEstablishesInvariant := by
  intro s f c initMem initCartRam hparse
  obtain ⟨k, ram, -, -, hmax, -, hcart⟩ := RomImage.parse_ok hparse
  have hmbc : c.mbc.Inv := hcart ▸ k.variant.inv_powerOn
  have hram : c.ramSize ≤ 131072 := hcart ▸ hmax.trans k.variant.maxRam_le
  obtain ⟨hwf, -⟩ := loadedMemory_spec f c initMem initCartRam hram
  rw [s.loadGame_ok initMem initCartRam hparse]
  exact s.inv_loaded hwf hmbc hram

end Sys2Proof.Machine
end

section
/-! The winner among the sprites of a pixel (`spec/62_ppu.md` R687): the smallest X, and among equal X the first in OAM
order. -/

namespace Sys2Proof.Machine

/-! ## The fold over the candidates -/

/-- `sp` wins over the list `before ++ sp :: after`: every earlier sprite stands further right, no later one further
left. -/
structure LeftmostFirst (before : List Sprite) (sp : Sprite) (after : List Sprite) : Prop where
  before_gt : ∀ o ∈ before, sp.x.toNat < o.x.toNat
  after_ge : ∀ o ∈ after, sp.x.toNat ≤ o.x.toNat

/-- From a first best sprite on, the fold keeps it or finds a better one further on. -/
theorem foldl_betterSprite_some (l : List Sprite) (b : Sprite) :
    ∃ before sp after, b :: l = before ++ sp :: after ∧ l.foldl betterSprite (some b) = some sp
      ∧ LeftmostFirst before sp after := by
  induction l generalizing b with
  | nil => exact ⟨[], b, [], rfl, rfl, by simp, by simp⟩
  | cons o l ih =>
    rw [List.foldl_cons, betterSprite]
    by_cases hlt : o.x.toNat < b.x.toNat
    · obtain ⟨before, sp, after, hsplit, hfold, hbefore, hafter⟩ := ih o
      have hle : sp.x.toNat ≤ o.x.toNat := by
        cases before with
        | nil => exact (List.cons.inj hsplit).1 ▸ le_rfl
        | cons p before =>
          obtain ⟨rfl, -⟩ := List.cons.inj hsplit
          exact (hbefore o List.mem_cons_self).le
      rw [if_pos hlt]
      exact ⟨b :: before, sp, after, congrArg (b :: ·) hsplit, hfold,
        List.forall_mem_cons.mpr ⟨hle.trans_lt hlt, hbefore⟩, hafter⟩
    · obtain ⟨before, sp, after, hsplit, hfold, hbefore, hafter⟩ := ih b
      rw [if_neg hlt]
      cases before with
      | nil =>
        obtain ⟨rfl, rfl⟩ := List.cons.inj hsplit
        exact ⟨[], b, o :: l, rfl, hfold, hbefore, List.forall_mem_cons.mpr ⟨not_lt.mp hlt, hafter⟩⟩
      | cons p before =>
        obtain ⟨rfl, rfl⟩ := List.cons.inj hsplit
        obtain ⟨hb, hbefore'⟩ := List.forall_mem_cons.mp hbefore
        exact ⟨b :: o :: before, sp, after, rfl, hfold,
          List.forall_mem_cons.mpr ⟨hb, List.forall_mem_cons.mpr ⟨hb.trans_le (not_lt.mp hlt), hbefore'⟩⟩, hafter⟩

/-- The fold finds nothing exactly in an empty list, and else the leftmost sprite, the first of them. -/
theorem foldl_betterSprite_none (l : List Sprite) :
    (l.foldl betterSprite none = none ∧ l = [])
      ∨ ∃ before sp after, l = before ++ sp :: after ∧ l.foldl betterSprite none = some sp
        ∧ LeftmostFirst before sp after := by
  cases l with
  | nil => exact .inl ⟨rfl, rfl⟩
  | cons b l => exact .inr (foldl_betterSprite_some l b)

/-! ## The candidates of a pixel -/

/-- The sprite covers column `x` with an opaque colour (R686). -/
def State.opaqueAt (s : State) (x : Nat) (sp : Sprite) : Bool := sp.covers x && s.spriteColour sp x != 0

theorem State.opaqueAt_iff (s : State) (x : Nat) (sp : Sprite) :
    s.opaqueAt x sp = true ↔ sp.covers x = true ∧ s.spriteColour sp x ≠ 0 := by
  rw [State.opaqueAt, Bool.and_eq_true, bne_iff_ne]

theorem State.winner_eq (s : State) (sprites : List Sprite) (x : Nat) :
    s.winner sprites x = (sprites.filter (s.opaqueAt x)).foldl betterSprite none := rfl

/-- Settles O52: the fold's split of the opaque sprites comes of a split of all of them. -/
theorem spriteWithSmallestXWins : Obligations.SpriteWithSmallestXWins := by
  intro s sprites x
  rw [s.winner_eq]
  obtain ⟨hnone, hempty⟩ | ⟨before, sp, after, hsplit, hwins, hbefore, hafter⟩ :=
    foldl_betterSprite_none (sprites.filter (s.opaqueAt x))
  · rw [hnone]
    refine ⟨fun _ h => (Option.some_ne_none _ h.symm).elim, fun _ o ho hcovers => ?_⟩
    by_contra hopaque
    exact List.filter_eq_nil_iff.mp hempty o ho ((s.opaqueAt_iff x o).mpr ⟨hcovers, hopaque⟩)
  · rw [hwins]
    refine ⟨?_, fun h => (Option.some_ne_none _ h).elim⟩
    rintro _ ⟨⟩
    obtain ⟨all, rest, rfl, rfl, hrest⟩ := List.filter_eq_append_iff.mp hsplit
    obtain ⟨skipped, later, rfl, hskipped, hsp, rfl⟩ := List.filter_eq_cons_iff.mp hrest
    obtain ⟨hcovers, hopaque⟩ := (s.opaqueAt_iff x sp).mp hsp
    refine ⟨all ++ skipped, later, (List.append_assoc _ _ _).symm, hcovers, hopaque, fun o ho hc hn => ?_,
      fun o ho hc hn => ?_⟩
    · have hopaqueAt := (s.opaqueAt_iff x o).mpr ⟨hc, hn⟩
      obtain ho | ho := List.mem_append.mp ho
      · exact hbefore o (List.mem_filter.mpr ⟨ho, hopaqueAt⟩)
      · exact absurd hopaqueAt (hskipped o ho)
    · exact hafter o (List.mem_filter.mpr ⟨ho, (s.opaqueAt_iff x o).mpr ⟨hc, hn⟩⟩)

end Sys2Proof.Machine
end

section
/-! The loop of `doTick` (`spec/80_host_interface.md` R781): every step that raises no fault costs at least 4 T-cycles,
so that the budget of 70224 ends the loop before its fuel does (log entry 25). -/

namespace Sys2Proof.Machine

variable {s t u : State}

/-! ## The cost of a step (`spec/60_exceptions.md` R640) -/

theorem cycles_advanceDevices (n : Nat) (s : State) : (advanceDevices n s).info.cycles = s.info.cycles := by
  obtain ⟨t, se, p, d, q, l, h⟩ := advanceDevices_spec n s
  rw [h]

@[simp] theorem State.cycles_advance (s : State) : s.advance.info.cycles = s.info.cycles := by
  unfold State.advance
  split
  · rfl
  · exact cycles_advanceDevices _ s

/-- A step that happens and raises no fault costs at least 4 T-cycles. -/
theorem Steps.four_le_cycles (h : Steps s t) (hidle : s.idle = false) (hfault : t.fault = none) :
    4 ≤ t.info.cycles := by
  have raised {s0 : State} (e : FaultRaised) : (s0.raise e).fault ≠ none := Option.some_ne_none e.record
  cases h with
  | idle hidle' => exact absurd (hidle.symm.trans hidle') (by decide)
  | stopped _ hmode =>
    rw [State.stoppedStep_eq _ (by rw [s.cpu_sampled, hmode])]
    exact Nat.le_add_left 4 _
  | halted _ hmode =>
    rw [State.haltedStep_eq _ (by rw [s.cpu_sampled, hmode]), cycles_advanceDevices]
    exact Nat.le_add_left 4 _
  | dispatch =>
    obtain hfree | ⟨e, herror⟩ := s.sampled.dispatchInterrupt_cases
    · rw [dispatchStep_of_ok (State.dispatchInterrupt_eq hfree), State.cycles_advance, s.sampled.dispatched_keeps.2]
      omega
    · rw [dispatchStep_of_error herror] at hfault
      exact absurd hfault (raised e)
  | @instr _ _ i u _ hexec =>
    cases hu : u.fault with
    | some r =>
      rw [endInstr_of_fault hu] at hfault
      exact absurd hfault (raised _)
    | none =>
      have hends := ExecEnds.all i s.sampled.fetchInstr.2
      rw [hexec] at hends
      cases hends with
      | faults _ hfaults => exact absurd hu hfaults
      | completes _ _ hcost =>
        rw [endInstr_of_noFault hu, State.cycles_advance, u.eiDelayUpdate_keeps.2.1]
        exact (Nat.le_add_left 4 _).trans hcost

/-- Along bus writes and advances the cartridge stays the same but for its registers. -/
theorem Reaches.registersOnly (h : Reaches s t) : RegistersOnly s.cart t.cart := by
  induction h with
  | refl => exact .refl _
  | control _ c q j f d i ih => exact ih
  | @busWrite u _ a v ih => exact ih.trans (u.registersOnly_busWrite a v)
  | @advance u _ n ih =>
    obtain ⟨t, se, p, d, q, l, hadv⟩ := advanceDevices_spec n u
    rw [hadv]
    exact ih

/-- The cartridge that a step leaves is loaded if it was. -/
theorem status_of_step (h : step s = .next t) : t.cart.status = s.cart.status := by
  rw [(step_reaches h).registersOnly.1]

/-! ## One turn of the loop -/

/-- The step that ended in `t`, after steps that cost `b` together, is the last of the call. -/
def TickStops (b : Nat) (t : State) : Prop := t.fault ≠ none ∨ t.ppu.frameReady = true ∨ 70224 ≤ b + t.info.cycles

/-- What a call answers whose last step ended in `t`, after the display calls `calls`. -/
def tickAnswer (t : State) (calls : List DisplayCall) : TickResult :=
  if t.fault.isSome then { mask := 0b10, state := t, calls := calls }
  else if t.ppu.frameReady then
    { mask := 0b01, state := { t with ppu := { t.ppu with frameReady := false } }, calls := calls ++ t.info.calls }
  else { mask := 0, state := t, calls := calls ++ t.info.calls }

theorem tickAnswer_of_fault {calls : List DisplayCall} (h : t.fault ≠ none) :
    tickAnswer t calls = { mask := 0b10, state := t, calls := calls } :=
  if_pos (Option.isSome_iff_ne_none.mpr h)

theorem tickAnswer_of_noFault {calls : List DisplayCall} (h : t.fault = none) :
    tickAnswer t calls =
      if t.ppu.frameReady then
        { mask := 0b01, state := { t with ppu := { t.ppu with frameReady := false } }, calls := calls ++ t.info.calls }
      else { mask := 0, state := t, calls := calls ++ t.info.calls } :=
  if_neg (by simp [h])

theorem tickLoop_stops {n b : Nat} {calls : List DisplayCall} (hstep : step s = .next t) (h : TickStops b t) :
    tickLoop (n + 1) b s calls = .next (tickAnswer t calls) := by
  rw [tickLoop, hstep, tickAnswer]
  dsimp only
  cases hfault : t.fault with
  | some r => rfl
  | none =>
    cases hready : t.ppu.frameReady with
    | true => rfl
    | false =>
      have hbudget : 70224 ≤ b + t.info.cycles := by simpa [TickStops, hfault, hready] using h
      exact if_pos hbudget

theorem tickLoop_continues {n b : Nat} {calls : List DisplayCall} (hstep : step s = .next t) (h : ¬TickStops b t) :
    tickLoop (n + 1) b s calls = tickLoop n (b + t.info.cycles) t (calls ++ t.info.calls) := by
  rw [TickStops, not_or, not_or, not_not, Bool.not_eq_true] at h
  obtain ⟨hfault, hready, hbudget⟩ := h
  rw [tickLoop, hstep]
  dsimp only
  rw [if_neg (by simp [hfault]), if_neg (by simp [hready])]
  exact if_neg hbudget

/-! ## The whole loop -/

theorem stepsCost_cons (t : State) (ts : List State) : stepsCost (t :: ts) = t.info.cycles + stepsCost ts := rfl

theorem stepsCalls_cons (t : State) (ts : List State) : stepsCalls (t :: ts) = t.info.calls ++ stepsCalls ts := rfl

theorem stepsCost_concat (ts : List State) (t : State) : stepsCost (ts ++ [t]) = stepsCost ts + t.info.cycles := by
  simp [stepsCost]

theorem stepsCalls_concat (ts : List State) (t : State) : stepsCalls (ts ++ [t]) = stepsCalls ts ++ t.info.calls := by
  simp [stepsCalls]

/-- The steps `ts` and a last one to `t` are those of a loop that starts from `s` with `b` T-cycles spent. -/
structure TickRun (b : Nat) (s : State) (ts : List State) (t : State) : Prop where
  steps : StepsThrough s (ts ++ [t])
  quiet : ∀ u ∈ ts, u.fault = none ∧ u.ppu.frameReady = false
  cost_lt : b + stepsCost ts < 70224
  stops : TickStops (b + stepsCost ts) t

/-- With fuel for the rest of the budget at 4 T-cycles a step, the loop ends by its last step and not by its fuel. -/
theorem tickLoop_run (n b : Nat) (s : State) (calls : List DisplayCall) (hload : s.cart.status = .loaded)
    (hfault : s.fault = none) (hb : b < 70224) (hn : 70224 ≤ b + 4 * n) :
    ∃ ts t, TickRun b s ts t ∧ tickLoop n b s calls = .next (tickAnswer t (calls ++ stepsCalls ts)) := by
  induction n generalizing b s calls with
  | zero => exact absurd hn (by omega)
  | succ n ih =>
    obtain ⟨t, hstep⟩ := (stepAlwaysAnswers s).1
    by_cases hstops : TickStops b t
    · exact ⟨[], t, ⟨⟨hstep, trivial⟩, by simp, hb, hstops⟩,
        (tickLoop_stops hstep hstops).trans (by rw [stepsCalls, List.flatMap_nil, List.append_nil])⟩
    · have hquiet := hstops
      rw [TickStops, not_or, not_or, not_not, Bool.not_eq_true, not_le] at hquiet
      obtain ⟨hfault', hready, hcost⟩ := hquiet
      have hfour := (Steps.of_step hstep).four_le_cycles (State.not_idle hload hfault) hfault'
      obtain ⟨ts, v, hrun, hloop⟩ :=
        ih (b + t.info.cycles) t (calls ++ t.info.calls) ((status_of_step hstep).trans hload) hfault' hcost (by omega)
      have hsum : b + stepsCost (t :: ts) = b + t.info.cycles + stepsCost ts := by
        rw [stepsCost_cons, Nat.add_assoc]
      refine ⟨t :: ts, v, ⟨⟨hstep, hrun.steps⟩, List.forall_mem_cons.mpr ⟨⟨hfault', hready⟩, hrun.quiet⟩,
        hsum ▸ hrun.cost_lt, hsum ▸ hrun.stops⟩, ?_⟩
      rw [tickLoop_continues hstep hstops, hloop, stepsCalls_cons, List.append_assoc]

theorem State.doTick_of_fault (hload : s.cart.status = .loaded) (hfault : s.fault ≠ none) :
    s.doTick = .next { mask := 0b10, state := s, calls := [] } := by
  rw [State.doTick, if_neg (not_not_intro hload), if_pos (Option.isSome_iff_ne_none.mpr hfault)]

theorem State.doTick_of_ready (hload : s.cart.status = .loaded) (hfault : s.fault = none) :
    s.doTick = tickLoop 17556 0 s [] := by
  rw [State.doTick, if_neg (not_not_intro hload), if_neg (by simp [hfault])]

/-- Settles O59: the loop as a run of steps (`tickLoop_run`), by how its last step ended. -/
theorem doTickMask : Obligations.DoTickMask := by
  intro s hload
  refine ⟨State.doTick_of_fault hload, fun hfault => ?_⟩
  obtain ⟨ts, t, ⟨hsteps, hquiet, hcost, hstops⟩, hloop⟩ :=
    tickLoop_run 17556 0 s [] hload hfault (by decide) (by decide)
  rw [← State.doTick_of_ready hload hfault, List.nil_append] at hloop
  rw [Nat.zero_add] at hcost hstops
  refine ⟨ts, t, hsteps, hquiet, hcost, fun hraised => ?_, fun hnone hready => ?_, fun hnone hready => ?_⟩
  · rw [hloop, tickAnswer_of_fault hraised]
  · rw [hloop, tickAnswer_of_noFault hnone, if_pos hready, stepsCalls_concat]
  · have hbudget : 70224 ≤ stepsCost ts + t.info.cycles := by simpa [TickStops, hnone, hready] using hstops
    rw [stepsCost_concat, hloop, tickAnswer_of_noFault hnone, if_neg (by simp [hready]), stepsCalls_concat]
    exact ⟨hbudget, rfl⟩

end Sys2Proof.Machine
end

section
/-! Save states and dumps of cartridge RAM (`spec/80_host_interface.md` R788 to R790). -/

namespace Sys2Proof.Machine

variable {s t u : State}

/-! ## The machine does not look at the record of its latest step -/

/-- A step that happens starts by clearing the record. -/
theorem step_congr (hs : s.idle = false) (hu : u.idle = false) (h : s.beginStep = u.beginStep) : step s = step u := by
  have hsampled : s.sampled = u.sampled := congrArg State.joypadSample h
  have hcpu : s.cpu = u.cpu := (congrArg State.cpu h :)
  rw [step_of_not_idle hs, step_of_not_idle hu, hsampled, hcpu, h]

theorem State.doTick_congr (hload : s.cart.status = .loaded) (hfault : s.fault = none)
    (h : s.beginStep = u.beginStep) : s.doTick = u.doTick := by
  have hload' : u.cart.status = .loaded := (congrArg (·.cart.status) h).symm.trans hload
  have hfault' : u.fault = none := (congrArg State.fault h).symm.trans hfault
  rw [State.doTick_of_ready hload hfault, State.doTick_of_ready hload' hfault']
  exact tickLoop_congr (step_congr (State.not_idle hload hfault) (State.not_idle hload' hfault') h) 17555 0 []

/-! ## Save states (R790) -/

/-- A blob of this cartridge is put into the state. -/
theorem State.loadState_of_matches {b : SaveBlob} (hload : u.cart.status = .loaded)
    (hversion : b.version = Config.saveStateVersion) (hsize : b.size = u.cart.blobSize) (himage : b.image = u.imageId)
    (hfits : b.content.fits u.cart = true) : u.loadState b = .ok (u.restore b.content) := by
  rw [State.loadState, if_neg (not_not_intro hload), if_neg (not_or.mpr ⟨not_not_intro hversion, not_not_intro hsize⟩),
    if_neg (not_not_intro himage), if_neg (ne_false_of_eq_true hfits)]

/-- Log entry 26: what a save state does not hold is that of the state it is put into. -/
theorem State.restore_blob (hwf : s.mem.wf = true) (himage : u.imageId = s.imageId)
    (hcart : RegistersOnly s.cart u.cart) :
    u.restore s.blob.content =
      { s with joypad := { s.joypad with keys := u.joypad.keys }, fault := u.fault, draws := u.draws, info := u.info } := by
  have hrom : u.mem.romPart = s.mem.romPart := congrArg ImageId.bytes himage
  have hmem : s.blob.content.ram ++ u.mem.romPart = s.mem := by
    rw [hrom]
    exact Memory.ramPart_append_romPart hwf
  rw [State.restore, hmem, hcart.1]
  rfl

/-- What `saveState` saves, `loadState` puts into any state of the same cartridge. -/
theorem State.loadState_blob (hwf : s.mem.wf = true) (hload : s.cart.status = .loaded) (himage : u.imageId = s.imageId)
    (hcart : RegistersOnly s.cart u.cart) :
    u.loadState s.blob =
      .ok { s with
        joypad := { s.joypad with keys := u.joypad.keys }, fault := u.fault, draws := u.draws, info := u.info } := by
  have hload' : u.cart.status = .loaded := by rw [hcart.1, hload]
  have hsize : s.blob.size = u.cart.blobSize := by
    rw [Cart.blobSize, hcart.ramSize]
    rfl
  rw [State.loadState_of_matches hload' rfl hsize himage.symm (State.blob_fits hwf _ hcart.2.symm),
    State.restore_blob hwf himage hcart]

/-! ## Cartridge RAM (R788, R789) -/

theorem State.loadCartridgeRam_refused {bytes : List Byte}
    (h : s.cart.status ≠ .loaded ∨ s.cart.ramSize = 0 ∨ bytes.length ≠ s.cart.ramSize) :
    ∃ e, s.loadCartridgeRam bytes = .error e := by
  unfold State.loadCartridgeRam
  split
  · exact ⟨_, rfl⟩
  · rename_i hload
    split
    · exact ⟨_, rfl⟩
    · rename_i hram
      exact ⟨_, if_pos ((h.resolve_left hload).resolve_left hram)⟩

theorem State.loadCartridgeRam_ok {bytes : List Byte} (hload : s.cart.status = .loaded) (hram : 0 < s.cart.ramSize)
    (hlen : bytes.length = s.cart.ramSize) :
    s.loadCartridgeRam bytes =
      .ok { s with
        mem := bytes.zipIdx.foldl (fun m c => m.write (cartRamBase + c.2) (s.cart.mbc.cellMask c.1)) s.mem } := by
  rw [State.loadCartridgeRam, if_neg (not_not_intro hload), if_neg hram.ne', if_neg (not_not_intro hlen)]

theorem toNat_or_f0 (v : Byte) : (0xF0 ||| (v &&& 0x0F)).toNat = 0xF0 + v.toNat % 16 := by
  revert v
  decide

/-- What a dump gives of a byte of cartridge RAM, as a number (R789). -/
theorem Mbc.toNat_dumpByte (m : Mbc) (v : Byte) :
    (m.dumpByte v).toNat = if m.variant = .mbc2 then 0xF0 + v.toNat % 16 else v.toNat := by
  cases m
  case mbc2 => exact toNat_or_f0 v
  all_goals rfl

theorem State.writeCartridgeRam_ok (hload : s.cart.status = .loaded) :
    s.writeCartridgeRam =
      .ok ((List.range s.cart.ramSize).map fun i => s.cart.mbc.dumpByte (s.byteAt (cartRamBase + i))) := by
  rw [State.writeCartridgeRam, if_neg (not_not_intro hload)]

/-- Settles O60: a saved state by `State.loadState_blob`, an accepted load by `State.loadState_ok`, a dump by the writes
of its bytes one after another. -/
theorem hostSavesAndRestores : Obligations.HostSavesAndRestores := by
  refine ⟨fun s u hwf _ hload himage hcart hvariant => ?_, fun s t b hok => ?_, fun s bytes => ?_, fun s => ?_⟩
  · refine ⟨s.blob, _, State.saveState_ok hload, State.loadState_blob hwf hload himage ⟨hcart, hvariant⟩, rfl,
      fun hkeys hfault hnone hdraws => State.doTick_congr hload hfault ?_⟩
    rw [hkeys, hfault, hdraws, ← hnone]
    rfl
  · have himage := State.byteAt_loadState hok
    obtain ⟨hload, hversion, hsize, hid, hvariant, -, -, rfl⟩ := State.loadState_ok hok
    exact ⟨hload, hversion, hsize, hid, himage, rfl, hvariant, rfl, rfl⟩
  · refine ⟨State.loadCartridgeRam_refused, fun hwf hload hram hlen => ?_⟩
    obtain ⟨hwf', hbytes, hrest⟩ := Memory.foldl_write_spec cartRamBase s.cart.mbc.cellMask bytes 0 s.mem hwf
    refine ⟨_, State.loadCartridgeRam_ok hload hram hlen, rfl, hwf', fun i v hv => ?_, fun p hp => ?_⟩
    · exact (congrArg BitVec.toNat (hbytes i v hv)).trans (s.cart.mbc.toNat_cellMask v)
    · exact hrest p (hlen.symm ▸ hp)
  · refine ⟨fun hload => ⟨_, if_pos hload⟩, fun hload => ⟨_, State.writeCartridgeRam_ok hload, ?_, fun i v hv => ?_⟩⟩
    · rw [List.length_map, List.length_range]
    · rw [List.getElem?_map, Option.map_eq_some_iff] at hv
      obtain ⟨j, hj, rfl⟩ := hv
      obtain ⟨hlt, rfl⟩ := List.getElem?_eq_some_iff.mp hj
      rw [List.getElem_range]
      exact s.cart.mbc.toNat_dumpByte _

end Sys2Proof.Machine
end

section
/-! The shades of a line in plain numbers (`spec/62_ppu.md` R675, R680 to R691). -/

namespace Sys2Proof.Machine

variable (s : State)

/-! ## Background and window (R680 to R684) -/

/-- The two tile areas: with LCDC bit 4 clear, tiles 128 to 255 stand at the same addresses as with it set. -/
theorem State.bgTileAddr_eq_tilePlace (t : Byte) : s.ppu.bgTileAddr t = s.tilePlace t := by
  have ht := t.isLt
  unfold Ppu.bgTileAddr State.tilePlace
  cases s.ppu.lcdc.getLsbD 4 with
  | true => simp
  | false =>
    simp only [Bool.false_eq_true, if_false, false_or, BitVec.toInt_eq_toNat_cond]
    split <;> split <;> omega

theorem State.toNat_bgColour (x : Nat) :
    (s.bgColour x).toNat = s.mapNumber 3 ((s.ppu.ly.toNat + s.ppu.scy.toNat) % 256) ((x + s.ppu.scx.toNat) % 256) := by
  rw [State.bgColour, State.tileColour_toNat, s.bgTileAddr_eq_tilePlace]
  rfl

theorem State.toNat_windowColour (x : Nat) :
    (s.windowColour x).toNat = s.mapNumber 6 s.ppu.windowLine.toNat (x + 7 - s.ppu.wx.toNat) := by
  rw [State.windowColour, State.tileColour_toNat, s.bgTileAddr_eq_tilePlace]
  rfl

theorem Ppu.windowDrawn_iff (p : Ppu) :
    p.windowDrawn = true ↔
      p.lcdc.getLsbD 5 = true ∧ p.lcdc.getLsbD 0 = true ∧ p.wy.toNat ≤ p.ly.toNat ∧ p.wx.toNat ≤ 166 := by
  simp only [Ppu.windowDrawn, Bool.and_eq_true, decide_eq_true_eq, and_assoc]

theorem State.windowCovers_iff {x : Nat} (h : s.ppu.lcdc.getLsbD 0 = true) :
    s.ppu.windowCovers x = true ↔ s.WindowAt x := by
  rw [Ppu.windowCovers, Bool.and_eq_true, s.ppu.windowDrawn_iff, decide_eq_true_eq, State.WindowAt]
  simp only [h, true_and, and_assoc]

/-- `bgc` of R689: the colour number of the window or the background, 0 with LCDC bit 0 clear. -/
def State.backColour (x : Nat) : Shade :=
  if s.ppu.lcdc.getLsbD 0 then (if s.ppu.windowCovers x then s.windowColour x else s.bgColour x) else 0

theorem State.backNumber_backColour (x : Nat) : s.BackNumber x (s.backColour x).toNat := by
  refine ⟨fun hoff => ?_, fun hon hwindow => ?_, fun hon hwindow => ?_⟩
  · rw [State.backColour, if_neg (ne_true_of_eq_false hoff)]
    rfl
  · rw [State.backColour, if_pos hon, if_pos ((s.windowCovers_iff hon).mpr hwindow), s.toNat_windowColour]
  · rw [State.backColour, if_pos hon, if_neg (mt (s.windowCovers_iff hon).mp hwindow), s.toNat_bgColour]

/-! ## Sprites (R675, R685, R686) -/

theorem State.spriteHeight_eq : s.ppu.spriteHeight = s.spriteRows := rfl

theorem Ppu.onLine_iff (p : Ppu) (sp : Sprite) :
    p.onLine sp = true ↔ sp.y.toNat ≤ p.ly.toNat + 16 ∧ p.ly.toNat + 16 < sp.y.toNat + p.spriteHeight := by
  rw [Ppu.onLine, Bool.and_eq_true, decide_eq_true_eq, decide_eq_true_eq]

theorem Sprite.covers_iff (sp : Sprite) (x : Nat) :
    sp.covers x = true ↔ sp.x.toNat ≤ x + 8 ∧ x < sp.x.toNat := by
  rw [Sprite.covers, Bool.and_eq_true, decide_eq_true_eq, decide_eq_true_eq]

/-- Selecting entries by their sprites is selecting them by their Y bytes. -/
theorem State.lineSprites_eq : s.lineSprites = s.selectedSprites := by
  rw [State.lineSprites, List.filter_map, ← List.map_take, State.selectedSprites]
  have hselect : s.ppu.onLine ∘ oamEntry s.mem = fun i =>
      decide ((s.byteAt (0xFE00 + 4 * i)).toNat ≤ s.ppu.ly.toNat + 16
        ∧ s.ppu.ly.toNat + 16 < (s.byteAt (0xFE00 + 4 * i)).toNat + s.spriteRows) :=
    funext fun i => Bool.eq_iff_iff.mpr ((s.ppu.onLine_iff _).trans decide_eq_true_iff.symm)
  rw [hselect]
  rfl

theorem State.onLine_of_mem_lineSprites {sp : Sprite} (h : sp ∈ s.lineSprites) : s.ppu.onLine sp = true :=
  (List.mem_filter.mp (List.mem_of_mem_take h)).2

theorem toNat_and_fe (v : Byte) : (v &&& 0xFE).toNat = v.toNat / 2 * 2 := by
  revert v
  decide

/-- On a line and a column that the sprite covers, a flip counts from its other end. -/
theorem State.toNat_spriteColour {sp : Sprite} {x : Nat} (hline : s.ppu.onLine sp = true)
    (hcovers : sp.covers x = true) : (s.spriteColour sp x).toNat = s.spriteNumber sp x := by
  obtain ⟨hy, hrows⟩ := (s.ppu.onLine_iff sp).mp hline
  obtain ⟨hx, hcols⟩ := (sp.covers_iff x).mp hcovers
  rw [s.spriteHeight_eq] at hrows
  have hflipY : s.spriteRows - 1 - (s.ppu.ly.toNat + 16 - sp.y.toNat)
      = sp.y.toNat + s.spriteRows - (s.ppu.ly.toNat + 17) := by omega
  have hflipX : 7 - (x + 8 - sp.x.toNat) = sp.x.toNat - (x + 1) := by omega
  rw [State.spriteColour, State.tileColour_toNat, State.spriteNumber, s.spriteHeight_eq,
    hflipY, hflipX, apply_ite BitVec.toNat, toNat_and_fe]

/-! ## Composition (R688, R689, R691) -/

theorem toNat_paletteShade (p : Byte) (c : Shade) : (paletteShade p c).toNat = shadeNumber p c.toNat := by
  rw [paletteShade, BitVec.toNat_setWidth, BitVec.toNat_ushiftRight, Nat.shiftRight_eq_div_pow, pow_mul]
  rfl

/-- The shade of window and background where no sprite covers them. -/
def State.backdrop (x : Nat) : Shade := if s.ppu.lcdc.getLsbD 0 then paletteShade s.ppu.bgp (s.backColour x) else 0

theorem State.toNat_backdrop (x : Nat) :
    (s.backdrop x).toNat =
      if s.ppu.lcdc.getLsbD 0 = true then shadeNumber s.ppu.bgp (s.backColour x).toNat else 0 := by
  rw [State.backdrop, apply_ite BitVec.toNat, toNat_paletteShade]
  rfl

/-- The sprite that may show at column `x`: the winner, with LCDC bit 1 set. -/
def State.shownSprite (x : Nat) : Option Sprite := if s.ppu.lcdc.getLsbD 1 then s.winner s.lineSprites x else none

theorem State.pixel_eq (x : Nat) :
    s.pixel s.lineSprites x =
      match s.shownSprite x with
      | some sp =>
        if !sp.attr.getLsbD 7 || s.backColour x == 0 then
          paletteShade (if sp.attr.getLsbD 4 then s.ppu.obp1 else s.ppu.obp0) (s.spriteColour sp x)
        else s.backdrop x
      | none => s.backdrop x := rfl

/-- The sprite shows over colour 0, or with priority over the background (R689). -/
theorem State.pixel_of_shown {x : Nat} {sp : Sprite} (hshown : s.shownSprite x = some sp)
    (h : sp.attr.getLsbD 7 = false ∨ s.backColour x = 0) :
    s.pixel s.lineSprites x =
      paletteShade (if sp.attr.getLsbD 4 then s.ppu.obp1 else s.ppu.obp0) (s.spriteColour sp x) := by
  rw [s.pixel_eq, hshown]
  exact if_pos (by simpa using h)

theorem State.pixel_of_hidden {x : Nat}
    (h : ∀ sp, s.shownSprite x = some sp → sp.attr.getLsbD 7 = true ∧ s.backColour x ≠ 0) :
    s.pixel s.lineSprites x = s.backdrop x := by
  rw [s.pixel_eq]
  cases hshown : s.shownSprite x with
  | none => rfl
  | some sp => exact if_neg (by simpa using h sp hshown)

theorem State.pixelNumber_pixel (x : Nat) : s.PixelNumber x (s.pixel s.lineSprites x).toNat := by
  have hzero : (s.backColour x).toNat = 0 ↔ s.backColour x = 0 := by
    rw [← BitVec.toNat_inj]
    rfl
  refine ⟨(s.backColour x).toNat, s.backNumber_backColour x, fun sp hon hwins hpriority => ?_, fun hhidden => ?_⟩
  · rw [s.pixel_of_shown ((if_pos hon).trans hwins) (hpriority.imp_right hzero.mp), toNat_paletteShade]
  · rw [s.pixel_of_hidden fun sp hshown => ?_, s.toNat_backdrop]
    obtain ⟨hon, hwins⟩ := Option.ite_none_right_eq_some.mp hshown
    obtain hoff | hnone | ⟨sp', hwins', hbehind, hopaque⟩ := hhidden
    · exact absurd (hon.symm.trans hoff) (by decide)
    · exact absurd (hwins.symm.trans hnone) (Option.some_ne_none sp)
    · obtain rfl := Option.some.inj (hwins'.symm.trans hwins)
      exact ⟨hbehind, mt hzero.mpr hopaque⟩

/-- Every shade of the line is the one of its pixel. -/
theorem State.pixelNumber_lineShades {x : Nat} {c : Shade} (h : s.lineShades[x]? = some c) :
    s.PixelNumber x c.toNat := by
  rw [State.lineShades, List.getElem?_map, Option.map_eq_some_iff] at h
  obtain ⟨i, hi, rfl⟩ := h
  obtain ⟨hlt, rfl⟩ := List.getElem?_eq_some_iff.mp hi
  rw [List.getElem_range]
  exact s.pixelNumber_pixel x

end Sys2Proof.Machine
end

section
/-! One dot of a running PPU by its events (`spec/62_ppu.md` R666 to R672, R683, R690): it ends the line, or it renders
the line, or it only moves on; then the STAT line follows its condition. -/

namespace Sys2Proof.Machine

variable {s : State}

/-! ## The three kinds of dot -/

theorem modeOf_eq_drawing_iff (ly : Byte) (dot : Nat) :
    modeOf ly dot = .drawing ↔ ly.toNat < 144 ∧ 80 ≤ dot ∧ dot < 252 := by
  unfold modeOf
  split_ifs <;> simp <;> omega

/-- Mode 3 never begins with a line. -/
theorem State.dotMove_dotRender_of_end (h : s.ppu.dot = 455) : s.dotMove.dotRender = s.nextLine := by
  have hmove : s.dotMove = s.nextLine := if_pos (by rw [h]; rfl)
  have hdot : s.nextLine.ppu.dot = 0 := by
    rw [s.ppu_nextLine]
    rfl
  have hmode : modeOf s.nextLine.ppu.ly s.nextLine.ppu.dot ≠ .drawing := by
    rw [Ne, modeOf_eq_drawing_iff, hdot]
    omega
  rw [hmove]
  exact if_neg fun hdraw => hmode hdraw.1

/-- The state one dot further on in its line. -/
def State.dotNext (s : State) : State := { s with ppu := { s.ppu with dot := s.ppu.dot + 1 } }

/-- Mode 3 begins at dot 80 of a visible line, and the line is rendered there (R665, R690). -/
theorem State.dotMove_dotRender_of_line (hinv : s.ppu.Inv) (hon : s.ppu.lcdOn = true) (h : s.ppu.dot ≠ 455) :
    s.dotMove.dotRender =
      if s.ppu.ly.toNat < 144 ∧ s.ppu.dot = 79 then s.dotNext.renderLine else s.dotNext := by
  have hmove : s.dotMove = s.dotNext := if_neg fun hend => h (Nat.succ.inj hend)
  have hbegins : modeOf s.dotNext.ppu.ly s.dotNext.ppu.dot = .drawing ∧ s.dotNext.ppu.mode ≠ .drawing
      ↔ s.ppu.ly.toNat < 144 ∧ s.ppu.dot = 79 := by
    have hmode : s.dotNext.ppu.mode = modeOf s.ppu.ly s.ppu.dot := hinv.mode_eq hon
    rw [hmode, Ne, modeOf_eq_drawing_iff, modeOf_eq_drawing_iff]
    dsimp only [State.dotNext]
    omega
  rw [hmove, State.dotRender]
  simp only [hbegins]

/-! ## What each kind of dot announces -/

/-- What a dot of `s` that has moved on to `u` announces and renders, before the mode and the STAT line follow. -/
structure DotEvents (s u : State) : Prop where
  /-- R669: the V-blank request on entry to line 144. -/
  req : u.irq.req = if s.ppu.ly = 143 ∧ s.ppu.dot = 455 then s.irq.req ||| (1 : BitVec 5) <<< 0 else s.irq.req
  /-- R672. -/
  frameReady : u.ppu.frameReady = (s.ppu.frameReady || decide (s.ppu.ly = 143 ∧ s.ppu.dot = 455))
  /-- R672, R692. -/
  calls : u.info.calls =
    s.info.calls
      ++ (if s.ppu.ly = 143 ∧ s.ppu.dot = 455 then [DisplayCall.drawScreen]
          else if s.ppu.ly.toNat < 144 ∧ s.ppu.dot = 79 then [.drawScanLine s.ppu.ly s.lineShades]
          else [])
  /-- R690. -/
  line : u.ppu.line = if s.ppu.ly.toNat < 144 ∧ s.ppu.dot = 79 then s.lineShades else s.ppu.line
  /-- R683. -/
  windowLine : u.ppu.windowLine =
    if s.ppu.ly = 153 ∧ s.ppu.dot = 455 then 0
    else if s.ppu.ly.toNat < 144 ∧ s.ppu.dot = 79 ∧ s.ppu.windowDrawn = true then s.ppu.windowLine + 1
    else s.ppu.windowLine
  /-- R668: the STAT line is still that of the dot before. -/
  statLine : u.ppu.statLine = s.ppu.statLine

theorem State.req_nextLine (s : State) :
    s.nextLine.irq.req = if s.ppu.nextLine.ly = 144 then s.irq.req ||| (1 : BitVec 5) <<< 0 else s.irq.req := by
  rw [s.nextLine_eq]
  split <;> rfl

theorem State.calls_nextLine (s : State) :
    s.nextLine.info.calls = s.info.calls ++ if s.ppu.nextLine.ly = 144 then [.drawScreen] else [] := by
  rw [s.nextLine_eq]
  split
  · rfl
  · exact (List.append_nil _).symm

/-- The next line is line 144 after line 143, and line 0 after line 153. -/
theorem Ppu.ly_nextLine {p : Ppu} (h : p.ly.toNat < 154) :
    (p.nextLine.ly = 144 ↔ p.ly = 143) ∧ (p.nextLine.ly = 0 ↔ p.ly = 153) := by
  have hnext : p.nextLine.ly = BitVec.ofNat 8 ((p.ly.toNat + 1) % 154) := rfl
  rw [hnext]
  constructor <;> bv_omega

/-- A line ends. -/
theorem DotEvents.nextLine (hly : s.ppu.ly.toNat < 154) (hend : s.ppu.dot = 455) : DotEvents s s.nextLine := by
  obtain ⟨h144, h0⟩ := Ppu.ly_nextLine hly
  have hvblank : s.ppu.ly = 143 ∧ s.ppu.dot = 455 ↔ s.ppu.nextLine.ly = 144 := (and_iff_left hend).trans h144.symm
  have hframe : s.ppu.ly = 153 ∧ s.ppu.dot = 455 ↔ s.ppu.nextLine.ly = 0 := (and_iff_left hend).trans h0.symm
  have hrender : s.ppu.dot ≠ 79 := by omega
  constructor
  case req => simp only [s.req_nextLine, hvblank]
  case frameReady =>
    have hready : s.ppu.nextLine.frameReady = if s.ppu.nextLine.ly = 144 then true else s.ppu.frameReady := rfl
    simp only [s.ppu_nextLine, hready, hvblank]
    split <;> simp_all
  case calls => simp only [s.calls_nextLine, hvblank, hrender, and_false, if_false]
  case line =>
    rw [s.ppu_nextLine, if_neg fun h => hrender h.2]
    rfl
  case windowLine =>
    have hwindow : s.ppu.nextLine.windowLine = if s.ppu.nextLine.ly = 0 then 0 else s.ppu.windowLine := rfl
    simp only [s.ppu_nextLine, hwindow, hframe, hrender, false_and, and_false, if_false]
  case statLine =>
    rw [s.ppu_nextLine]
    rfl

/-- The shades of a line do not depend on the dot. -/
theorem State.lineShades_dotNext (s : State) : s.dotNext.lineShades = s.lineShades := rfl

/-- A line is rendered. -/
theorem DotEvents.renderLine (hly : s.ppu.ly.toNat < 144) (hdot : s.ppu.dot = 79) :
    DotEvents s s.dotNext.renderLine := by
  have hend : s.ppu.dot ≠ 455 := by omega
  have hvblank : ¬(s.ppu.ly = 143 ∧ s.ppu.dot = 455) := fun h => hend h.2
  rw [State.renderLine_eq, State.lineShades_dotNext]
  constructor
  case req => rw [if_neg hvblank]; rfl
  case frameReady => rw [decide_eq_false hvblank, Bool.or_false]; rfl
  case calls => rw [if_neg hvblank, if_pos ⟨hly, hdot⟩]; rfl
  case line => rw [if_pos ⟨hly, hdot⟩]; rfl
  case windowLine =>
    have hwindow : (s.dotNext.ppu.rendered s.lineShades).windowLine =
        if s.ppu.windowDrawn then s.ppu.windowLine + 1 else s.ppu.windowLine := rfl
    rw [if_neg fun h => hend h.2]
    simp only [hwindow, hly, hdot, true_and]
  case statLine => rfl

/-- A dot that neither ends a line nor renders one announces nothing. -/
theorem DotEvents.dotNext (hend : s.ppu.dot ≠ 455) (hrender : ¬(s.ppu.ly.toNat < 144 ∧ s.ppu.dot = 79)) :
    DotEvents s s.dotNext := by
  have hvblank : ¬(s.ppu.ly = 143 ∧ s.ppu.dot = 455) := fun h => hend h.2
  constructor
  case req => rw [if_neg hvblank]; rfl
  case frameReady => rw [decide_eq_false hvblank, Bool.or_false]; rfl
  case calls => rw [if_neg hvblank, if_neg hrender, List.append_nil]; rfl
  case line => rw [if_neg hrender]; rfl
  case windowLine =>
    rw [if_neg fun h => hend h.2, if_neg fun h => hrender ⟨h.1, h.2.1⟩]
    rfl
  case statLine => rfl

theorem DotEvents.dotMove_dotRender (hinv : s.ppu.Inv) (hon : s.ppu.lcdOn = true) :
    DotEvents s s.dotMove.dotRender := by
  by_cases hend : s.ppu.dot = 455
  · rw [State.dotMove_dotRender_of_end hend]
    exact .nextLine hinv.ly_lt hend
  · rw [State.dotMove_dotRender_of_line hinv hon hend]
    split
    · rename_i hrender
      exact .renderLine hrender.1 hrender.2
    · rename_i hrender
      exact .dotNext hend hrender

/-! ## The STAT line (R662, R668) -/

theorem State.req_statLineUpdate (u : State) :
    u.statLineUpdate.irq.req =
      if (u.ppu.statCondition && !u.ppu.statLine) = true then u.irq.req ||| (1 : BitVec 5) <<< 1 else u.irq.req := by
  unfold State.statLineUpdate
  dsimp only
  split <;> rfl

/-- The state in the mode of its position (R665), in which the STAT line is updated. -/
def State.dotMode (s : State) : State := { s with ppu := { s.ppu with mode := modeOf s.ppu.ly s.ppu.dot } }

theorem State.dotSettle_eq (s : State) : s.dotSettle = s.dotMode.statLineUpdate := rfl

/-- The STAT line follows its condition, with a request on its rising edge, and the display is not called. -/
theorem State.dotSettle_spec (u : State) :
    u.dotSettle.irq.req =
        (if (u.dotSettle.ppu.statCondition && !u.ppu.statLine) = true then u.irq.req ||| (1 : BitVec 5) <<< 1
          else u.irq.req)
      ∧ u.dotSettle.info = u.info ∧ u.dotSettle.ppu.statLine = u.dotSettle.ppu.statCondition := by
  obtain ⟨q, hq⟩ := u.dotMode.statLineUpdate_spec
  have hcondition : u.dotMode.statLineUpdate.ppu.statCondition = u.dotMode.ppu.statCondition := by
    rw [hq]
    rfl
  rw [u.dotSettle_eq, hcondition]
  refine ⟨u.dotMode.req_statLineUpdate, ?_, ?_⟩ <;> rw [hq]
  rfl

/-- Request `i` sets bit `i` of IF and keeps the others. -/
theorem getLsbD_or_one_shiftLeft (q : BitVec 5) {i j : Nat} (hj : j < 5) :
    (q ||| (1 : BitVec 5) <<< i).getLsbD j = (q.getLsbD j || decide (j = i)) := by
  have hbit : ((1 : BitVec 5) <<< i).getLsbD j = decide (j = i) := by
    have hij : i < 5 ∧ i = j ↔ j = i := by omega
    exact (BitVec.getLsbD_twoPow i j).trans (by rw [← Bool.decide_and, decide_eq_decide.mpr hij])
  rw [BitVec.getLsbD_or, hbit]

/-- The same of a request that comes under a condition. -/
theorem getLsbD_ite_request (c : Prop) [Decidable c] (q : BitVec 5) (i : Nat) {j : Nat} (hj : j < 5) :
    (if c then q ||| (1 : BitVec 5) <<< i else q).getLsbD j = (q.getLsbD j || decide (j = i) && decide c) := by
  by_cases hc : c
  · rw [if_pos hc, getLsbD_or_one_shiftLeft q hj, decide_eq_true hc, Bool.and_true]
  · rw [if_neg hc, decide_eq_false hc, Bool.and_false, Bool.or_false]

/-- The selects of STAT read back (R662). -/
theorem Ppu.getLsbD_statRead (p : Ppu) {k : Nat} (h3 : 3 ≤ k) (h7 : k < 7) :
    p.statRead.getLsbD k = p.statSel.getLsbD (k - 3) := by
  have hmask : (0x87 : Byte).getLsbD k = false := by
    obtain rfl | rfl | rfl | rfl : k = 3 ∨ k = 4 ∨ k = 5 ∨ k = 6 := by omega
    all_goals rfl
  have hdevice : p.statDevice.getLsbD k = false := by
    rw [← p.statDevice_masked, BitVec.getLsbD_and, hmask, Bool.and_false]
  rw [p.statRead_eq, BitVec.getLsbD_or, hdevice, Bool.or_false, BitVec.getLsbD_shiftLeft, BitVec.getLsbD_setWidth,
    decide_eq_true (by omega : k < 8), decide_eq_false (by omega : ¬k < 3), decide_eq_true (by omega : k - 3 < 8)]
  rfl

/-- R668: the OR of the conditions that STAT enables. -/
theorem Ppu.statCondition_iff (p : Ppu) :
    p.statCondition = true ↔
      (p.statRead.getLsbD 6 = true ∧ p.ly = p.lyc) ∨ (p.statRead.getLsbD 5 = true ∧ p.mode = .oamScan)
        ∨ (p.statRead.getLsbD 4 = true ∧ p.mode = .vBlank) ∨ (p.statRead.getLsbD 3 = true ∧ p.mode = .hBlank) := by
  rw [p.getLsbD_statRead (by decide) (by decide), p.getLsbD_statRead (by decide) (by decide),
    p.getLsbD_statRead (by decide) (by decide), p.getLsbD_statRead (by decide) (by decide)]
  simp only [Ppu.statCondition, Bool.or_eq_true, Bool.and_eq_true, beq_iff_eq, decide_eq_true_eq, or_assoc]

/-! ## One dot -/

/-- Settles O51: the events by the kind of dot (`DotEvents`), the STAT line by `State.dotSettle_spec`, the shades by
`State.pixelNumber_lineShades`. -/
theorem ppuDotEvents : Obligations.PpuDotEvents := by
  rintro s _ hinv hon rfl
  have hevents := DotEvents.dotMove_dotRender hinv hon
  have hppu := s.dotMove.dotRender.ppu_dotSettle
  obtain ⟨hreq, hinfo, hstat⟩ := s.dotMove.dotRender.dotSettle_spec
  rw [← State.ppuDot_of_on hon] at hppu hreq hinfo hstat
  rw [hevents.req, hevents.statLine] at hreq
  have hwindowLine := hevents.windowLine
  simp only [s.ppu.windowDrawn_iff] at hwindowLine
  refine ⟨?_, ?_, hinfo ▸ hevents.calls, ?_, ?_, s.length_lineShades, fun x c => s.pixelNumber_lineShades,
    s.lineSprites_eq, Sprite.covers_iff,
    fun sp hsp x => s.toNat_spriteColour (s.onLine_of_mem_lineSprites hsp), Ppu.statCondition_iff _, ?_, hstat⟩
  · rw [hreq, getLsbD_ite_request _ _ _ (by decide), getLsbD_ite_request _ _ _ (by decide)]
    simp
  · rw [hppu]
    exact hevents.frameReady
  · rw [hppu]
    exact hevents.line
  · rw [hppu]
    exact hwindowLine
  · rw [hreq, getLsbD_ite_request _ _ _ (by decide), getLsbD_ite_request _ _ _ (by decide)]
    simp

end Sys2Proof.Machine
end
